-- ==== Sys2Proof/Word.lean ====
section
/-! DEFINITION. The word types of the FB412: bytes of links and flash, instants of the timebase. -/

namespace Sys2Proof

/-- A byte of a link frame or of flash. -/
abbrev Byte := BitVec 8

/-- A value of the 32-bit microsecond timebase (R18). -/
abbrev Instant := BitVec 32

/-- A count of a 14-bit ring encoder (00_scope.md, Units). -/
abbrev Count := BitVec 14

/-- A 16-bit word of the event unit, one bit for each event (11.4). -/
abbrev EventWord := BitVec 16

end Sys2Proof
end

