-- ==== Sys2Proof/Syntax.lean ====
section
/-! DEFINITION. The commands of the block: one constructor for each row of spec/opcode_table.json.
A row that something outside the block brings about carries what comes with it: the link it arrives on,
the instant at which it is taken, the bytes it carries. A row that ends something the block itself has
timed carries only what comes from outside, such as an encoder's answer (log 2). -/

namespace Sys2Proof

/-- The two links, each named by its master (00_scope.md, Names). -/
inductive Link where
  | body
  | accessory
  deriving DecidableEq, Repr

/-- The three axes (01, 1.1). -/
inductive Axis where
  | focus
  | zoom
  | iris
  deriving DecidableEq, Repr

/-- The nine strap pins as sampled, true when high (R192, 12.4). -/
structure Straps where
  accessoryRate : Bool
  zoomFitted : Bool
  irisFitted : Bool
  focusSense : Bool
  zoomSense : Bool
  irisSense : Bool
  service : Bool
  bodyAttention : Bool
  accessoryAttention : Bool
  deriving DecidableEq, Repr

/-- The commands. In a request row `instant` is the moment its last byte is received and `payload` is
the frame's payload (R149, R186). -/
inductive Instr where
  /-- POWER_ON (R192). -/
  | powerOn
  /-- PIN_RESET (R192). -/
  | pinReset
  /-- LEAVE_RESET (R192), with the levels of the strap pins at that moment. -/
  | leaveReset (straps : Straps)
  /-- CACHE_RAM_CHECK_DONE (R193), with whether every read of the RAM matched. -/
  | cacheRamCheckDone (passed : Bool)
  /-- SELF_TEST_ENCODER_ATTEMPT (R193). -/
  | selfTestEncoderAttempt
  /-- SELF_TEST_ENCODER_READ_DONE (R193), with the 16-bit answer of the axis's encoder (R4). -/
  | selfTestEncoderReadDone (axis : Axis) (answer : BitVec 16)
  /-- MARKER_AREA_READ_DONE (R76). -/
  | markerAreaReadDone
  /-- TABLE_SCAN_END (R59). -/
  | tableScanEnd
  /-- SAMPLING_INSTANT (R3). -/
  | samplingInstant
  /-- ENCODER_READ_COMPLETE (R3), with the 16-bit answer of the axis's encoder (R4). -/
  | encoderReadComplete (axis : Axis) (answer : BitVec 16)
  /-- SYNC_EDGE (R19). -/
  | syncEdge (instant : Instant)
  /-- STREAM_TIMEOUT (R22). -/
  | streamTimeout
  /-- COMPUTATION_START (R135). -/
  | computationStart
  /-- CUTOFF (R136). -/
  | cutoff
  /-- DUE_INSTANT (R33). -/
  | dueInstant
  /-- PORT_READ_START (R80). -/
  | portReadStart
  /-- FILL_COMPLETE (R91). -/
  | fillComplete
  /-- WALK_READ_COMPLETE (R96). -/
  | walkReadComplete
  /-- READ_STORE_READ_END (R79). -/
  | readStoreReadEnd
  /-- STORE_WORK_BEGINS (R81). -/
  | storeWorkBegins
  /-- ERASE_COMPLETE (R72). -/
  | eraseComplete
  /-- PROGRAM_COMPLETE (R73). -/
  | programComplete
  /-- SET_READ_PROTECTION_COMPLETE (R77). -/
  | setReadProtectionComplete
  /-- CLEAR_PROTECTION_SECTOR_ERASED (R78). -/
  | clearProtectionSectorErased
  /-- FRAME_ABANDONED (R147), with the byte that ends the frame. -/
  | frameAbandoned (link : Link) (instant : Instant) (byte : Byte)
  /-- FRAME_GAP_TIMEOUT (R147). -/
  | frameGapTimeout (link : Link)
  /-- ABILITY (R148). -/
  | ability (link : Link) (instant : Instant) (payload : List Byte)
  /-- ABILITY_SEND_DUE (R153). -/
  | abilitySendDue (link : Link)
  /-- ABILITY_TIMEOUT (R154). -/
  | abilityTimeout (link : Link)
  /-- LINK_UP_TIMEOUT (R156). -/
  | linkUpTimeout (link : Link)
  /-- TRANSMIT_END (R150). -/
  | transmitEnd (link : Link)
  /-- PERIODIC_REPORT_DUE (R142). -/
  | periodicReportDue
  /-- REINITIALIZE_RESTART (R196). -/
  | reinitializeRestart
  /-- RENEGOTIATE_LINK_RESTART (R158). -/
  | renegotiateLinkRestart (link : Link)
  /-- IDENTIFY (R177). -/
  | identify (link : Link) (instant : Instant) (payload : List Byte)
  /-- READ_STATUS (R178). -/
  | readStatus (link : Link) (instant : Instant) (payload : List Byte)
  /-- READ_POSITION (R16). -/
  | readPosition (link : Link) (instant : Instant) (payload : List Byte)
  /-- READ_EVENTS (R182). -/
  | readEvents (link : Link) (instant : Instant) (payload : List Byte)
  /-- MODIFY_EVENTS (R183). -/
  | modifyEvents (link : Link) (instant : Instant) (payload : List Byte)
  /-- SET_EVENT_ENABLES (R182). -/
  | setEventEnables (link : Link) (instant : Instant) (payload : List Byte)
  /-- RENEGOTIATE (R158). -/
  | renegotiate (link : Link) (instant : Instant) (payload : List Byte)
  /-- REINITIALIZE (R195). -/
  | reinitialize (link : Link) (instant : Instant) (payload : List Byte)
  /-- FRAME_FORMAT (R25). -/
  | frameFormat (link : Link) (instant : Instant) (payload : List Byte)
  /-- FRAME_INFO (R26). -/
  | frameInfo (link : Link) (instant : Instant) (payload : List Byte)
  /-- WRITE_MODE_SET (R132). -/
  | writeModeSet (link : Link) (instant : Instant) (payload : List Byte)
  /-- READ_MODE_SET (R134). -/
  | readModeSet (link : Link) (instant : Instant) (payload : List Byte)
  /-- SET_ANCHOR (R168). -/
  | setAnchor (link : Link) (instant : Instant) (payload : List Byte)
  /-- ANCHOR_HERE (R169). -/
  | anchorHere (link : Link) (instant : Instant) (payload : List Byte)
  /-- SET_MARK (R171). -/
  | setMark (link : Link) (instant : Instant) (payload : List Byte)
  /-- DELETE_MARK (R172). -/
  | deleteMark (link : Link) (instant : Instant) (payload : List Byte)
  /-- READ_MARKS (R173). -/
  | readMarks (link : Link) (instant : Instant) (payload : List Byte)
  /-- LOCK_PATH (R94). -/
  | lockPath (link : Link) (instant : Instant) (payload : List Byte)
  /-- UNLOCK (R98). -/
  | unlock (link : Link) (instant : Instant) (payload : List Byte)
  /-- CACHE_STATUS (R101). -/
  | cacheStatus (link : Link) (instant : Instant) (payload : List Byte)
  /-- DUMP_CACHE (R102). -/
  | dumpCache (link : Link) (instant : Instant) (payload : List Byte)
  /-- LOAD_PAGE_BUFFER (R71). -/
  | loadPageBuffer (link : Link) (instant : Instant) (payload : List Byte)
  /-- PROGRAM_PAGE (R73). -/
  | programPage (link : Link) (instant : Instant) (payload : List Byte)
  /-- ERASE_SECTOR (R72). -/
  | eraseSector (link : Link) (instant : Instant) (payload : List Byte)
  /-- RESCAN_TABLES (R75). -/
  | rescanTables (link : Link) (instant : Instant) (payload : List Byte)
  /-- READ_STORE (R79). -/
  | readStore (link : Link) (instant : Instant) (payload : List Byte)
  /-- SET_READ_PROTECTION (R77). -/
  | setReadProtection (link : Link) (instant : Instant) (payload : List Byte)
  /-- CLEAR_READ_PROTECTION (R78). -/
  | clearReadProtection (link : Link) (instant : Instant) (payload : List Byte)
  /-- UNKNOWN_KIND_REQUEST (R176), with the frame's kind byte. -/
  | unknownKindRequest (link : Link) (instant : Instant) (kind : Byte) (payload : List Byte)
  /-- BYTE_RECEIVED (R147). -/
  | byteReceived (link : Link) (instant : Instant) (byte : Byte)
  deriving DecidableEq, Repr

end Sys2Proof
end

