-- ==== Sys2Proof/Config.lean ====
section
/-! DEFINITION. What one part fixes, and the free values: values the manual leaves open. -/

namespace Sys2Proof

/-- The part revision that IDENTIFY and the part's ability word report (R177, R152). -/
def Config.revision : Nat := 1

/-- The byte left at a flash address by an erase or program that a power-on or pin reset has cut off
(R68, R83: it "may read any value afterwards"). The first argument numbers the cut-off, the second is
the flash address. A free value: nothing is known of it (log 6). -/
opaque Config.indeterminateByte : Nat → Nat → Byte

/-- A byte of a reply for which the manual states no value (R189, log 8). The first argument numbers
the reply, the second is the offset in its payload. A free value. -/
opaque Config.unstatedByte : Nat → Nat → Byte

end Sys2Proof
end

