-- ==== Sys2Proof/Machine/State.lean ====
section
/-! DEFINITION. The state of the FB412 as plain data, block by block as 00_scope.md lists the blocks
and what each owns, and the state after reset. -/

namespace Sys2Proof.Machine

/-- One value for each axis. -/
structure PerAxis (α : Type) where
  focus : α
  zoom : α
  iris : α
  deriving DecidableEq, Repr

/-- One value for each link. -/
structure PerLink (α : Type) where
  body : α
  accessory : α
  deriving DecidableEq, Repr

/-! ### Start-up sequencer (chapter 12) -/

/-- How far one axis has come in the encoder step of the self-test (R193). -/
inductive EncoderTest where
  /-- The axis is ABSENT and is not read. -/
  | notRead
  /-- The read of attempt `n` is in progress. -/
  | reading (n : Nat)
  /-- Attempt `n` has ended without a valid answer and another is to follow. -/
  | waiting (n : Nat)
  | passed
  | failed
  deriving DecidableEq, Repr

/-- What the sequencer is doing. -/
inductive Phase where
  /-- The part is held in reset; `bySupply` when the supply monitor has held or forced it (R192). -/
  | held (bySupply : Bool)
  /-- Step 1 of the self-test, begun at `since` (R193). -/
  | cacheRam (since : Instant)
  /-- Step 2; the latest attempt began at `attempt`. -/
  | encoders (attempt : Instant) (tests : PerAxis EncoderTest)
  /-- The read of the marker area, of the self-test or of REINITIALIZE (R193, R196). -/
  | marker (reinit : Bool) (since : Instant)
  /-- The table scan of the self-test or of REINITIALIZE (R59). -/
  | scan (reinit : Bool) (since : Instant)
  /-- Start-up has ended (R194). -/
  | finished
  deriving DecidableEq, Repr

/-- The cause of the most recent start (R177, R192, R196). -/
inductive ResetCause where
  | power
  | pin
  | reinit
  deriving DecidableEq, Repr

/-- A REINITIALIZE that has been taken and has not restarted the part yet (R195). -/
inductive Reinit where
  | idle
  /-- Its reply has not been sent on this link. -/
  | replying (link : Link)
  /-- The restart is to begin (R196). -/
  | due
  deriving DecidableEq, Repr

/-- The sequencer's own state (chapter 12). -/
structure Sequencer where
  phase : Phase
  straps : Straps
  cause : ResetCause
  /-- Bits 0 to 6 as R193 numbers them. -/
  failMask : BitVec 8
  reinit : Reinit
  deriving DecidableEq, Repr

/-! ### Encoder front end (chapter 1) -/

/-- The state of an axis (1.3). -/
inductive AxisState where
  | absent
  | seeking
  | live
  | stale
  | lost
  deriving DecidableEq, Repr

/-- A sample of an axis's ring (R6). -/
structure Sample where
  instant : Instant
  count : Count
  valid : Bool
  deriving DecidableEq, Repr

/-- The latest valid sample record of an axis (R7); `value` is none while unavailable. -/
structure LatestSample where
  instant : Instant
  count : Count
  value : Option Nat
  deriving DecidableEq, Repr

/-- The front end's state for one axis. The fitted and sense settings are strap values (R2). -/
structure AxisUnit where
  state : AxisState
  invalidRun : Nat
  validRun : Nat
  /-- Oldest first (R6). -/
  ring : List Sample
  latest : Option LatestSample
  outsideMap : Bool
  /-- The sampling instant of the read in progress on the axis's line (R3). -/
  reading : Option Instant
  deriving DecidableEq, Repr

/-- A breakpoint of an axis map (1.4). -/
structure Breakpoint where
  count : Nat
  value : Nat
  deriving DecidableEq, Repr

/-- An axis map, which always has a first breakpoint (R53). -/
structure AxisMap where
  first : Breakpoint
  rest : List Breakpoint
  deriving DecidableEq, Repr

/-- The front end's working copy (R10). -/
structure MapCopy where
  maps : PerAxis AxisMap
  primeFocal : Nat
  assumedIris : Nat
  deriving DecidableEq, Repr

structure FrontEnd where
  axes : PerAxis AxisUnit
  mapCopy : Option MapCopy
  nextSampling : Option Instant
  deriving DecidableEq, Repr

/-! ### Cells, knots and brackets (chapters 4, 6 and 7) -/

/-- The two kinds of calibration table (4.5). -/
inductive TableKind where
  | breathing
  | shading
  deriving DecidableEq, Repr

/-- A cell key (R84). -/
structure Key where
  kind : TableKind
  focus : Nat
  zoom : Nat
  iris : Nat
  deriving DecidableEq, Repr

/-- A decoded and clamped cell (R61). -/
inductive Cell where
  | breathing (m dx dy : Int)
  /-- The gains g0 to g8. -/
  | shading (gains : List Int)
  deriving DecidableEq, Repr

/-- A bracket of a value in a knot list (R107). -/
structure Bracket where
  lower : Nat
  upper : Nat
  weight : Nat
  outside : Bool
  deriving DecidableEq, Repr

/-! ### Mode sets (8.2) -/

/-- MS0 Prediction. -/
structure MS0 where
  span : Nat
  horizon : Nat
  deadband : Nat
  lead : Nat
  prefetch : Bool
  deriving DecidableEq, Repr

/-- MS1 Breathing. -/
structure MS1 where
  strength : Nat
  slewLimit : Nat
  centreShift : Bool
  deriving DecidableEq, Repr

/-- MS2 Shading. -/
structure MS2 where
  strength : Nat
  gainCap : Nat
  deriving DecidableEq, Repr

inductive HoldPolicy where
  | hold
  | neutral
  deriving DecidableEq, Repr

/-- MS3 Record. -/
structure MS3 where
  pattern : Bool
  policy : HoldPolicy
  guard : Nat
  deriving DecidableEq, Repr

/-- Staged contents with their sync count (R133). -/
structure Staged (α : Type) where
  contents : α
  syncs : Nat
  deriving DecidableEq, Repr

/-- A mode set: its contents in force, none while UNWRITTEN, and its staged contents (R131). -/
structure ModeSet (α : Type) where
  inForce : Option α
  staged : Option (Staged α)
  deriving DecidableEq, Repr

/-! ### Frames (chapters 2, 7 and 8) -/

inductive StreamState where
  | noStream
  | acquiring
  | locked
  deriving DecidableEq, Repr

/-- The frame format (2.4): lengths in micrometres, limits in ppm, times in microseconds. -/
structure FrameFormat where
  hd : Nat
  margin : Nat
  cropLimit : Nat
  dueOffset : Nat
  exposure : Nat
  readout : Nat
  deriving DecidableEq, Repr

/-- A predicted position (R46, R135). -/
structure Position where
  focusCount : Count
  power : Nat
  focal : Nat
  iris : Nat
  deriving DecidableEq, Repr

/-- The previously delivered values and the FIRST marker (R105). -/
structure Previous where
  scale : Option Int
  shift : Option (Int × Int)
  curve : Option (List Int)
  first : Bool
  deriving DecidableEq, Repr

/-- The flags of a correction record (R125). -/
structure RecordFlags where
  first : Bool
  scaleHeld : Bool
  scaleClamped : Bool
  scaleSlewed : Bool
  shadingHeld : Bool
  shadingCapped : Bool
  beyondCircle : Bool
  outsideTable : Bool
  axisHeld : Bool
  targetStale : Bool
  pattern : Bool
  deriving DecidableEq, Repr

/-- A needed cell and, once received, the engine's copy of it (R86, R109, R136). -/
structure Need where
  key : Key
  cell : Option Cell
  deriving DecidableEq, Repr

/-- The breathing quantity of a computation (R106, R108, R121). -/
inductive BreathingWork where
  | notFormed
  | held
  /-- Its brackets of F, A and Z and the cells it needs. -/
  | gathering (f a z : Bracket) (needs : List Need)
  deriving DecidableEq, Repr

/-- The shading quantity of a computation (R106, R108, R123). -/
inductive ShadingWork where
  | notFormed
  | held
  /-- Its brackets of F, Z and I, the Rn of its header copy and the cells it needs. -/
  | gathering (f z i : Bracket) (rn : Nat) (needs : List Need)
  deriving DecidableEq, Repr

/-- A computation in progress: the inputs read at its start (R104) and what it has received. -/
structure Computation where
  position : Position
  axisHeld : Bool
  targetStale : Bool
  anchor : Nat
  level : Nat
  ms1 : MS1
  ms2 : MS2
  policy : HoldPolicy
  previous : Previous
  breathing : BreathingWork
  shading : ShadingWork
  outsideTable : Bool
  /-- The engine has not left the stay in RUNNING in which the computation began (R138). -/
  sameStay : Bool
  deriving DecidableEq, Repr

/-- What a READY entry delivers (R124, R139). -/
structure Delivered where
  position : Position
  anchor : Nat
  level : Nat
  flags : RecordFlags
  scale : Int
  shiftX : Int
  shiftY : Int
  gains : List Int
  deriving DecidableEq, Repr

/-- The progress of a pending entry (R32). -/
inductive Progress where
  | waiting
  | computing (c : Computation)
  | ready (d : Delivered)
  deriving DecidableEq, Repr

/-- An entry of the pending frame list (2.6). -/
structure Entry where
  frameNumber : BitVec 16
  skipped : Nat
  sync : Instant
  format : FrameFormat
  target : Instant
  due : Instant
  compute : Instant
  cutoff : Instant
  progress : Progress
  deriving DecidableEq, Repr

/-- Frame timing (chapter 2). -/
structure Timing where
  timebase : Instant
  stream : StreamState
  lastSync : Option Instant
  period : Nat
  frameNumber : BitVec 16
  format : FrameFormat
  skip : Nat
  /-- The pending frame list, oldest first. -/
  frames : List Entry
  deriving DecidableEq, Repr

/-! ### Table store (chapters 4 and 5) -/

/-- An active-table choice with its header copy (R58). A breathing table has the iris list [0]. -/
structure ActiveTable where
  sector : BitVec 3
  generation : Nat
  focus : List Nat
  zoom : List Nat
  iris : List Nat
  rn : Nat
  deriving DecidableEq, Repr

/-- The working description (R50, R53, R54). -/
structure Description where
  /-- The model text up to its end. -/
  model : List Byte
  serial : Nat
  maps : PerAxis AxisMap
  defaultAnchor : Nat
  primeFocal : Nat
  assumedIris : Nat
  deriving DecidableEq, Repr

/-- A sector's scan verdict (R60). -/
inductive Verdict where
  | unscanned
  | valid
  | noGeneration
  | badKind
  | badKnots
  | lengthMismatch
  | crcFail
  deriving DecidableEq, Repr

/-- Kind and generation as read by a scan (R60). -/
structure HeaderRead where
  kind : Nat
  generation : Nat
  deriving DecidableEq, Repr

/-- The five store operations (R69). -/
inductive StoreOpName where
  | eraseSector
  | programPage
  | rescanTables
  | setReadProtection
  | clearReadProtection
  deriving DecidableEq, Repr

/-- The operation in flight (R70); `working` is when its work on flash began (R81). -/
structure StoreOp where
  name : StoreOpName
  sector : Option (BitVec 3)
  page : Option (BitVec 8)
  working : Option Instant
  deriving DecidableEq, Repr

/-- How an operation ended (R70, R73). -/
inductive OpResult where
  | done
  /-- FAULT with cause VERIFY. -/
  | verifyFault (firstOffset differing : Nat)
  deriving DecidableEq, Repr

/-- The last completion record (R70). -/
structure Completion where
  name : StoreOpName
  sector : Option (BitVec 3)
  page : Option (BitVec 8)
  result : OpResult
  deriving DecidableEq, Repr

/-- A READ STORE that has been taken (R79). -/
structure ReadRequest where
  sector : BitVec 3
  offset : BitVec 16
  count : Nat
  deriving DecidableEq, Repr

/-- What the flash read port is reading (R80). -/
inductive PortJob where
  /-- The fill of a queue entry, with the cell the store hands back. -/
  | fill (key : Key) (cell : Cell)
  /-- A cell of the lock walk, with its table's generation; dropped when the walk has stopped. -/
  | walk (key : Key) (cell : Cell) (generation : Nat) (dropped : Bool)
  /-- A READ STORE of the accessory link; dropped when that link has left UP (R157). -/
  | readStore (request : ReadRequest) (dropped : Bool)
  deriving DecidableEq, Repr

structure PortRead where
  job : PortJob
  since : Instant
  deriving DecidableEq, Repr

structure Store where
  /-- The flash array in canonical form: addresses rising, no byte that equals 0xFF (R68, log 5). -/
  flash : List Host.Cell
  pageBuffer : List Byte
  op : Option StoreOp
  lastCompletion : Option Completion
  readProtection : Bool
  port : Option PortRead
  readStoreWaiting : List ReadRequest
  sector0Valid : Bool
  description : Option Description
  breathing : Option ActiveTable
  shading : Option ActiveTable
  /-- Of sectors 0 to 6. -/
  verdicts : List Verdict
  /-- Of sectors 1 to 6. -/
  headers : List (Option HeaderRead)
  deriving DecidableEq, Repr

/-! ### Cell cache (chapter 6) -/

/-- What a valid way holds. -/
structure WayContent where
  key : Key
  cell : Cell
  locked : Bool
  deriving DecidableEq, Repr

/-- A way of a set; it is valid when it has content (R85). -/
structure Way where
  content : Option WayContent
  rank : Nat
  deriving DecidableEq, Repr

/-- An entry of the fill queue (R88). -/
structure FillEntry where
  key : Key
  generation : Nat
  beingRead : Bool
  deriving DecidableEq, Repr

inductive WalkState where
  | idle
  | walking
  | done
  | abandoned
  deriving DecidableEq, Repr

/-- The lock walk record (chapter 6). -/
structure Walk where
  state : WalkState
  /-- The from-mark and to-mark ids. -/
  ends : Option (Nat × Nat)
  /-- The cells of the plan that the walk has not taken yet, in plan order. -/
  rest : List Key
  planned : Nat
  locked : Nat
  skipped : Nat
  deriving DecidableEq, Repr

structure Cache where
  /-- 64 sets of 4 ways. -/
  sets : List (List Way)
  demand : List FillEntry
  prefetch : List FillEntry
  walk : Walk
  disabled : Bool
  deriving DecidableEq, Repr

/-! ### Correction engine (chapter 8) -/

inductive EngineState where
  | unconfigured
  | standby
  | running
  | pattern
  deriving DecidableEq, Repr

structure Engine where
  state : EngineState
  ms0 : ModeSet MS0
  ms1 : ModeSet MS1
  ms2 : ModeSet MS2
  ms3 : ModeSet MS3
  previous : Previous
  heldCounts : PerAxis (Option Count)
  lastPrediction : Option Position
  patternCounter : BitVec 4
  /-- When the next periodic position report is due (R142). -/
  reportDue : Option Instant
  deriving DecidableEq, Repr

/-! ### Links (chapter 9) -/

inductive LinkState where
  | silent
  | abilityDetect
  | acknowledge
  | up
  deriving DecidableEq, Repr

inductive Claim where
  | decline
  | auto
  | claim
  deriving DecidableEq, Repr

/-- A master's ability word (R151). -/
structure MasterWord where
  level : Nat
  claim : Claim
  seed : Nat
  acknowledge : Bool
  deriving DecidableEq, Repr

/-- The frame parser (R147). -/
inductive Parser where
  | hunting
  /-- The bytes received after the marker, oldest first, and the expiry of the gap timer. -/
  | inFrame (bytes : List Byte) (gapDue : Instant)
  deriving DecidableEq, Repr

/-- A frame the part sends: its kind and its payload, from which `TxFrame.bytes` forms the whole frame. -/
structure TxFrame where
  kind : Byte
  payload : List Byte
  deriving DecidableEq, Repr

structure LinkUnit where
  state : LinkState
  matchCount : Nat
  previousWord : Option MasterWord
  acceptedWord : Option MasterWord
  /-- The maximum record level of the part's latched ability word (R152). -/
  latchedLevel : Option Nat
  recordLevel : Option Nat
  parser : Parser
  sendDue : Option Instant
  timeout : Option Instant
  abilityWaiting : Bool
  records : List TxFrame
  replies : List TxFrame
  /-- Refusals of READ STORE that leave after the reply of the READ STORE before them (R149, log 33). -/
  heldBack : List TxFrame
  /-- The frame being sent and when it began. -/
  sending : Option (TxFrame × Instant)
  renegotiateDue : Bool
  deriving DecidableEq, Repr

/-! ### Authority unit (chapter 10) and event unit (chapter 11) -/

/-- A mark (R170); an empty label is no label. -/
structure Mark where
  id : Nat
  power : Nat
  label : List Byte
  deriving DecidableEq, Repr

structure Authority where
  holder : Option Link
  conflict : Bool
  equalSeeds : Nat
  anchor : Nat
  marks : List Mark
  deriving DecidableEq, Repr

/-- The event unit's state for one link (11.4). -/
structure EventUnit where
  pending : EventWord
  enable : EventWord
  /-- The attention line is at its active level (R184). -/
  attention : Bool
  deriving DecidableEq, Repr

/-! ### The whole part -/

/-- The state of the part. `pending` is the queue of commands waiting to be taken, oldest first; `free`
is the MODEL's own counter, which numbers the free values drawn (log 7). -/
structure State where
  pending : List Instr
  free : Nat
  seq : Sequencer
  front : FrontEnd
  timing : Timing
  store : Store
  cache : Cache
  engine : Engine
  links : PerLink LinkUnit
  auth : Authority
  /-- None before the end of strap sampling: the event unit then holds no words (R179). -/
  events : Option (PerLink EventUnit)
  deriving DecidableEq, Repr

/-- Why the block stops. The manual gives the part no machine fault and no command ends in one. -/
inductive Fault where
  /-- An access to a flash address outside the array of R68. Raised by nobody: sectors, pages and
  offsets are bounded by their types and by the checks of R69. Safe. -/
  | noSuchFlashByte (address : Nat)
  deriving DecidableEq, Repr

/-- Why the model has no answer. -/
inductive Refusal where
  /-- The command has no meaning yet; raised by an arm of `exec` that is rejected by name. Safe. -/
  | notModelled (mnemonic : String)
  deriving DecidableEq, Repr

/-- The outcome of a command. -/
abbrev Result := Host.Outcome State Fault Refusal

/-! ### Values after reset -/

/-- The strap values before the first sampling: all low (DESIGN CHOICE, log 4). -/
def unsampledStraps : Straps :=
  ⟨false, false, false, false, false, false, false, false, false⟩

/-- Whether the straps say the axis is fitted (R2). -/
def fittedBy (s : Straps) : Axis → Bool
  | .focus => true
  | .zoom => s.zoomFitted
  | .iris => s.irisFitted

/-- One axis of the front end after any reset (R17). -/
def AxisUnit.reset (fitted : Bool) : AxisUnit :=
  { state := if fitted then .seeking else .absent, invalidRun := 0, validRun := 0, ring := [],
    latest := none, outsideMap := false, reading := none }

/-- The front end after any reset, before sampling begins (R17). -/
def FrontEnd.reset (straps : Straps) : FrontEnd :=
  { axes := ⟨.reset (fittedBy straps .focus), .reset (fittedBy straps .zoom),
      .reset (fittedBy straps .iris)⟩,
    mapCopy := none, nextSampling := none }

/-- The frame format after any reset (2.4). -/
def FrameFormat.reset : FrameFormat :=
  { hd := 14000, margin := 0, cropLimit := 100000, dueOffset := 4000, exposure := 10000, readout := 0 }

/-- Frame timing after any reset, with the timebase it keeps or starts from (R35). -/
def Timing.reset (timebase : Instant) : Timing :=
  { timebase := timebase, stream := .noStream, lastSync := none, period := 0, frameNumber := 0,
    format := .reset, skip := 0, frames := [] }

/-- The page buffer at all 0xFF (R71). -/
def erasedPage : List Byte := List.replicate 256 0xFF#8

/-- The table store after any reset, with what the start keeps (R67, R83). -/
def Store.reset (flash : List Host.Cell) (pageBuffer : List Byte) (readProtection : Bool) : Store :=
  { flash := flash, pageBuffer := pageBuffer, op := none, lastCompletion := none,
    readProtection := readProtection, port := none, readStoreWaiting := [], sector0Valid := false,
    description := none, breathing := none, shading := none,
    verdicts := List.replicate 7 .unscanned, headers := List.replicate 6 none }

/-- A set with every way invalid and way w at rank w (R103). -/
def emptySet : List Way := [⟨none, 0⟩, ⟨none, 1⟩, ⟨none, 2⟩, ⟨none, 3⟩]

/-- The walk record IDLE (R103). -/
def Walk.idleRecord : Walk :=
  { state := .idle, ends := none, rest := [], planned := 0, locked := 0, skipped := 0 }

/-- The cell cache after any reset (R103). -/
def Cache.reset (disabled : Bool) : Cache :=
  { sets := List.replicate 64 emptySet, demand := [], prefetch := [], walk := .idleRecord,
    disabled := disabled }

/-- The previously delivered values at none (R105). -/
def Previous.none (first : Bool) : Previous :=
  { scale := Option.none, shift := Option.none, curve := Option.none, first := first }

/-- The engine after any reset (R145). -/
def Engine.reset : Engine :=
  { state := .unconfigured, ms0 := ⟨none, none⟩, ms1 := ⟨none, none⟩, ms2 := ⟨none, none⟩,
    ms3 := ⟨none, none⟩, previous := .none false, heldCounts := ⟨none, none, none⟩,
    lastPrediction := none, patternCounter := 0, reportDue := none }

/-- A link unit after any reset (R159), apart from a frame that REINITIALIZE lets finish (R196). -/
def LinkUnit.reset : LinkUnit :=
  { state := .silent, matchCount := 0, previousWord := none, acceptedWord := none,
    latchedLevel := none, recordLevel := none, parser := .hunting, sendDue := none, timeout := none,
    abilityWaiting := false, records := [], replies := [], heldBack := [], sending := none, renegotiateDue := false }

/-- The authority unit after any reset, until start-up ends (R174). -/
def Authority.reset : Authority :=
  { holder := none, conflict := false, equalSeeds := 0, anchor := 0, marks := [] }

/-- The sequencer of a part that the supply monitor holds at power-on (R192, log 4). -/
def Sequencer.reset : Sequencer :=
  { phase := .held true, straps := unsampledStraps, cause := .power, failMask := 0, reinit := .idle }

/-- The machine right after power-on reset: every block at its reset value, the supply monitor still
holding the part, the flash erased (DESIGN CHOICE, log 5) and no command waiting. -/
def State.reset : State :=
  { pending := [], free := 0, seq := .reset, front := .reset unsampledStraps, timing := .reset 0,
    store := .reset [] erasedPage false, cache := .reset false, engine := .reset,
    links := ⟨.reset, .reset⟩, auth := .reset, events := none }

/-! ### One update for each block -/

def State.setSeq (x : Sequencer) (s : State) : State := { s with seq := x }
def State.setFront (x : FrontEnd) (s : State) : State := { s with front := x }
def State.setTiming (x : Timing) (s : State) : State := { s with timing := x }
def State.setStore (x : Store) (s : State) : State := { s with store := x }
def State.setCache (x : Cache) (s : State) : State := { s with cache := x }
def State.setEngine (x : Engine) (s : State) : State := { s with engine := x }
def State.setLinks (x : PerLink LinkUnit) (s : State) : State := { s with links := x }
def State.setAuth (x : Authority) (s : State) : State := { s with auth := x }
def State.setEvents (x : Option (PerLink EventUnit)) (s : State) : State := { s with events := x }
def State.setFree (x : Nat) (s : State) : State := { s with free := x }

end Sys2Proof.Machine
end

