-- ==== Sys2Proof/Machine/Operands.lean ====
section
/-! DEFINITION. Operand forms: instants, rounding, byte fields of payloads and flash, the check code,
and the accessors of what there is one of per axis or per link. -/

namespace Sys2Proof.Machine

/-! ### Instants (00_scope.md, Time; R18) -/

/-- The difference of two instants, read as a signed 32-bit quantity. -/
def instantDiff (a b : Instant) : Int := (a - b).toInt

/-- An instant plus an interval, modulo 2^32. -/
def addInterval (t : Instant) (n : Nat) : Instant := t + BitVec.ofNat 32 n

/-- An instant minus an interval, modulo 2^32. -/
def subInterval (t : Instant) (n : Nat) : Instant := t - BitVec.ofNat 32 n

/-- The later of two instants. -/
def laterOf (a b : Instant) : Instant := if 0 < instantDiff a b then a else b

/-! ### Arithmetic and rounding (R1) -/

/-- Division to the nearest integer, an exact half away from zero (R1). -/
def roundDiv (n : Int) (d : Nat) : Int := n.sign * (((2 * n.natAbs + d) / (2 * d) : Nat) : Int)

/-- Clamped to a range (R1). -/
def clampNat (lo hi x : Nat) : Nat := if x < lo then lo else if hi < x then hi else x

/-- Clamped to a range (R1). -/
def clampInt (lo hi x : Int) : Int := if x < lo then lo else if hi < x then hi else x

/-! ### Fields, least significant byte first (R185) -/

/-- A one-byte field. -/
def le8 (n : Nat) : List Byte := [BitVec.ofNat 8 n]

/-- A two-byte field. -/
def le16 (n : Nat) : List Byte := [BitVec.ofNat 8 n, BitVec.ofNat 8 (n / 256)]

/-- A four-byte field. -/
def le32 (n : Nat) : List Byte := le16 n ++ le16 (n / 65536)

/-- A two-byte field in two's complement. -/
def leSigned16 (i : Int) : List Byte := le16 (BitVec.ofInt 16 i).toNat

/-- A one-byte field that is 1 for true. -/
def leFlag (b : Bool) : List Byte := [if b then 1 else 0]

/-- The byte of a payload at an offset; the offsets used are inside the payload's checked length. -/
def byteAt (p : List Byte) (i : Nat) : Nat := (p.getD i 0).toNat

/-- The two-byte field of a payload at an offset. -/
def field16 (p : List Byte) (i : Nat) : Nat := byteAt p i + 256 * byteAt p (i + 1)

/-- The four-byte field of a payload at an offset. -/
def field32 (p : List Byte) (i : Nat) : Nat := field16 p i + 65536 * field16 p (i + 2)

/-- A two-byte value read in two's complement. -/
def signed16 (n : Nat) : Int := (BitVec.ofNat 16 n).toInt

/-- The bits of a list of flags, bit 0 first. -/
def bitsOf : List Bool → Nat
  | [] => 0
  | b :: bs => (if b then 1 else 0) + 2 * bitsOf bs

/-- A text field of `n` bytes with 0 after its end. -/
def padText (n : Nat) (text : List Byte) : List Byte :=
  text.take n ++ List.replicate (n - text.length) 0#8

/-- The text of a field up to its first zero byte (R50, R171). -/
def textOf : List Byte → List Byte
  | [] => []
  | b :: bs => if b = 0 then [] else b :: textOf bs

/-! ### The check code (R52) -/

/-- `n` shifts of the 16-bit register with polynomial x^16 + x^12 + x^5 + 1. -/
def crcShift : Nat → BitVec 16 → BitVec 16
  | 0, r => r
  | n + 1, r => crcShift n (if r.msb then (r <<< 1) ^^^ 0x1021 else r <<< 1)

/-- One byte enters, most significant bit first. -/
def crcByte (r : BitVec 16) (b : Byte) : BitVec 16 := crcShift 8 (r ^^^ (b.zeroExtend 16 <<< 8))

/-- The 16-bit CRC: preset to all ones, no final inversion. -/
def crc16 (bytes : List Byte) : BitVec 16 := bytes.foldl crcByte 0xFFFF

/-! ### Per axis and per link -/

def PerAxis.get {α : Type} (p : PerAxis α) : Axis → α
  | .focus => p.focus
  | .zoom => p.zoom
  | .iris => p.iris

def PerAxis.set {α : Type} (p : PerAxis α) (a : Axis) (x : α) : PerAxis α :=
  match a with
  | .focus => { p with focus := x }
  | .zoom => { p with zoom := x }
  | .iris => { p with iris := x }

/-- A function of the axis and its value, applied to each axis. -/
def PerAxis.mapAxes {α β : Type} (f : Axis → α → β) (p : PerAxis α) : PerAxis β :=
  ⟨f .focus p.focus, f .zoom p.zoom, f .iris p.iris⟩

def PerLink.get {α : Type} (p : PerLink α) : Link → α
  | .body => p.body
  | .accessory => p.accessory

def PerLink.set {α : Type} (p : PerLink α) (l : Link) (x : α) : PerLink α :=
  match l with
  | .body => { p with body := x }
  | .accessory => { p with accessory := x }

/-- The other link (00_scope.md, Names). -/
def otherLink : Link → Link
  | .body => .accessory
  | .accessory => .body

/-- The present instant. -/
def State.now (s : State) : Instant := s.timing.timebase

/-- The unit of a link. -/
def State.link (s : State) (l : Link) : LinkUnit := s.links.get l

/-- Replaces the unit of a link. -/
def State.setLink (l : Link) (u : LinkUnit) (s : State) : State := s.setLinks (s.links.set l u)

/-- Whether an axis is fitted (R2). -/
def State.fitted (s : State) (a : Axis) : Bool := fittedBy s.seq.straps a

/-- Whether counting is reversed for an axis (R2, R5). -/
def senseHigh (s : Straps) : Axis → Bool
  | .focus => s.focusSense
  | .zoom => s.zoomSense
  | .iris => s.irisSense

/-- The part is held in reset (R192). -/
def State.isHeld (s : State) : Bool :=
  match s.seq.phase with
  | .held _ => true
  | _ => false

/-- Start-up has ended, so the links receive and send (R146, R194). -/
def State.started (s : State) : Bool := decide (s.seq.phase = .finished)

/-- The active table of a kind (R58). -/
def State.active (s : State) : TableKind → Option ActiveTable
  | .breathing => s.store.breathing
  | .shading => s.store.shading

/-- The number that names a kind in a key and in a header (R55, R84). -/
def TableKind.code : TableKind → Nat
  | .breathing => 0
  | .shading => 1

end Sys2Proof.Machine
end

