-- ==== Sys2Proof/Machine/Flags.lean ====
section
/-! DEFINITION. Every flag computation: the event bits and attention lines of the event unit
(11.4, R179 to R184) and the flag word of a correction record (R188). -/

namespace Sys2Proof.Machine

/-- The sixteen events in the order of their bits (11.4). -/
inductive Event where
  | axisLost
  | axisRange
  | streamAcquired
  | streamLost
  | recordHeld
  | scaleLimited
  | tableMissing
  | storeDone
  | storeFault
  | authorityChanged
  | authorityConflict
  | peerLinkChanged
  | modeApplied
  | lockDone
  | selfTestFail
  | frameRejected
  deriving DecidableEq, Repr

/-- The event's bit (11.4, R179). -/
def Event.bit : Event → Nat
  | .axisLost => 0
  | .axisRange => 1
  | .streamAcquired => 2
  | .streamLost => 3
  | .recordHeld => 4
  | .scaleLimited => 5
  | .tableMissing => 6
  | .storeDone => 7
  | .storeFault => 8
  | .authorityChanged => 9
  | .authorityConflict => 10
  | .peerLinkChanged => 11
  | .modeApplied => 12
  | .lockDone => 13
  | .selfTestFail => 14
  | .frameRejected => 15

/-- The word with the event's bit alone set. -/
def Event.mask (e : Event) : EventWord := BitVec.twoPow 16 e.bit

/-- Sets the event's bit in a unit's pending word, whatever its enable bit (R180). -/
def EventUnit.latch (e : Event) (u : EventUnit) : EventUnit := { u with pending := u.pending ||| e.mask }

/-- An event raised on one link (R180). Before strap sampling there is no word to hold it (R179). -/
def raiseOn (l : Link) (e : Event) (s : State) : State :=
  match s.events with
  | none => s
  | some w => s.setEvents (some (w.set l ((w.get l).latch e)))

/-- An event raised on both links (R180). -/
def raise (e : Event) (s : State) : State := raiseOn .accessory e (raiseOn .body e s)

/-- An event raised on both links when a condition holds. -/
def raiseIf (b : Bool) (e : Event) (s : State) : State := if b then raise e s else s

/-- The condition of AXIS_LOST: a fitted axis is LOST (R9). -/
def State.axisLost (s : State) : Bool :=
  (s.fitted .focus && decide (s.front.axes.focus.state = .lost)) ||
  (s.fitted .zoom && decide (s.front.axes.zoom.state = .lost)) ||
  (s.fitted .iris && decide (s.front.axes.iris.state = .lost))

/-- The condition of TABLE_MISSING: a kind has no active table (R66). -/
def State.tableMissing (s : State) : Bool := s.store.breathing.isNone || s.store.shading.isNone

/-- The condition of SELF_TEST_FAIL: a non-zero fail mask (R193). -/
def State.selfTestFailed (s : State) : Bool := s.seq.failMask != 0

/-- The level bits whose conditions hold (R181). -/
def levelWord (s : State) : EventWord :=
  (if s.axisLost then Event.mask .axisLost else 0) |||
  (if s.tableMissing then Event.mask .tableMissing else 0) |||
  (if s.auth.conflict then Event.mask .authorityConflict else 0) |||
  (if s.selfTestFailed then Event.mask .selfTestFail else 0)

/-- A unit with the given level bits set and its attention line re-evaluated (R181, R184). -/
def EventUnit.settle (levels : EventWord) (u : EventUnit) : EventUnit :=
  let pending := u.pending ||| levels
  { u with pending := pending, attention := pending &&& u.enable != 0 }

/-- The event unit at the end of a step: every level bit whose condition holds is set (R9, R66, R163,
R181, R193) and each attention line is at the level R184 gives. -/
def settle (s : State) : State :=
  match s.events with
  | none => s
  | some w => s.setEvents (some ⟨w.body.settle (levelWord s), w.accessory.settle (levelWord s)⟩)

/-- The answer of a command that takes effect: the next state, with its events settled. -/
def answer (s : State) : Result := .next (settle s)

/-- The words after any reset, once the straps are sampled (R179). -/
def eventsReset : Option (PerLink EventUnit) := some ⟨⟨0, 0xFFFF, false⟩, ⟨0, 0xFFFF, false⟩⟩

/-- A link's pending word, 0 before the unit holds words. -/
def pendingWord (s : State) (l : Link) : EventWord :=
  match s.events with
  | none => 0
  | some w => (w.get l).pending

/-- A link's enable word, 0 before the unit holds words. -/
def enableWord (s : State) (l : Link) : EventWord :=
  match s.events with
  | none => 0
  | some w => (w.get l).enable

/-- The electrical level of a link's attention line, high as true, or none while it is not driven: the
active level is the opposite of the level at which the pin was strapped (R184). -/
def attentionLevel (s : State) (l : Link) : Option Bool :=
  s.events.map fun w =>
    let strapped := match l with
      | .body => s.seq.straps.bodyAttention
      | .accessory => s.seq.straps.accessoryAttention
    if (w.get l).attention then !strapped else strapped

/-- The flags of a frame on which nothing has been found. -/
def RecordFlags.clear : RecordFlags :=
  ⟨false, false, false, false, false, false, false, false, false, false, false⟩

/-- The flag word of a record (R188). -/
def RecordFlags.word (f : RecordFlags) : Nat :=
  bitsOf [f.first, f.scaleHeld, f.scaleClamped, f.scaleSlewed, f.shadingHeld, f.shadingCapped,
    f.beyondCircle, f.outsideTable, f.axisHeld, f.targetStale, f.pattern]

end Sys2Proof.Machine
end

