-- ==== Sys2Proof/Machine/Ops.lean ====
section
/-! DEFINITION. Operations that several blocks share: the passing of time, the flash array, and each
link's transmitter and reply list. -/

namespace Sys2Proof.Machine

/-! ### Time -/

/-- Time passes to an instant, or stands when that instant is not later (R18, log 2). -/
def advanceTo (t : Instant) (s : State) : State :=
  s.setTiming { s.timing with timebase := laterOf t s.timing.timebase }

/-- One microsecond of the timebase, which stands while the part is held in reset (R18, log 1). -/
def tick (s : State) : State :=
  if s.isHeld then s else s.setTiming { s.timing with timebase := s.timing.timebase + 1 }

/-! ### The flash array (R68) -/

/-- The array's size in bytes. -/
def flashSize : Nat := 524288

/-- The bytes of one sector. -/
def sectorSize : Nat := 65536

/-- The address of a sector's first byte. -/
def sectorBase (sector : BitVec 3) : Nat := sectorSize * sector.toNat

/-- The address of the first byte of a page of a sector. -/
def pageBase (sector : BitVec 3) (page : BitVec 8) : Nat := sectorBase sector + 256 * page.toNat

/-- What an address that is not listed reads as: an erased byte (log 5). -/
def erasedByte : Byte := 0xFF

/-- Reads one byte of flash. -/
def flashRead : List Host.Cell → Nat → Byte
  | [], _ => erasedByte
  | c :: rest, a => if c.1 = a then c.2 else flashRead rest a

/-- Writes one byte of flash, keeping the canonical form: writing the erased value removes the entry. -/
def flashWrite : List Host.Cell → Nat → Byte → List Host.Cell
  | [], a, b => if b = erasedByte then [] else [(a, b)]
  | c :: rest, a, b =>
    if a < c.1 then (if b = erasedByte then c :: rest else (a, b) :: c :: rest)
    else if a = c.1 then (if b = erasedByte then rest else (a, b) :: rest)
    else c :: flashWrite rest a b

/-- Reads `n` bytes from an address. -/
def flashBytes (m : List Host.Cell) (a n : Nat) : List Byte := (List.range n).map fun i => flashRead m (a + i)

/-- A two-byte field of flash. -/
def flash16 (m : List Host.Cell) (a : Nat) : Nat := (flashRead m a).toNat + 256 * (flashRead m (a + 1)).toNat

/-- A four-byte field of flash. -/
def flash32 (m : List Host.Cell) (a : Nat) : Nat := flash16 m a + 65536 * flash16 m (a + 2)

/-- Writes to `n` bytes from an address the values a function gives. -/
def flashFill (m : List Host.Cell) (a : Nat) (f : Nat → Byte) : Nat → List Host.Cell
  | 0 => m
  | n + 1 => flashWrite (flashFill m a f n) (a + n) (f (a + n))

/-- Returns `n` bytes from an address to 0xFF (R68). -/
def flashErase (m : List Host.Cell) (a n : Nat) : List Host.Cell :=
  m.filter fun c => decide (c.1 < a) || decide (a + n ≤ c.1)

/-- Programs bytes from an address: each becomes its old value AND the value programmed (R68). -/
def flashProgram (m : List Host.Cell) (a : Nat) : List Byte → List Host.Cell
  | [] => m
  | b :: bs => flashProgram (flashWrite m a (flashRead m a &&& b)) (a + 1) bs

/-- The canonical form: addresses strictly rising and inside the array, no entry that reads as an
unlisted address does. -/
def flashWf (m : List Host.Cell) : Bool :=
  decide (m.Pairwise fun x y => x.1 < y.1) &&
  m.all fun c => decide (c.1 < flashSize) && decide (c.2 ≠ erasedByte)

/-- The number of differing bytes and the offset of the first, of two byte lists (R73). -/
def differences : List Byte → List Byte → Nat → Option (Nat × Nat)
  | x :: xs, y :: ys, i =>
    match differences xs ys (i + 1) with
    | none => if x = y then none else some (i, 1)
    | some (j, n) => if x = y then some (j, n) else some (i, n + 1)
  | _, _, _ => none

/-- The result of a verified program (R73, R77). -/
def verifyResult (flash wanted : List Byte) : OpResult :=
  match differences flash wanted 0 with
  | none => .done
  | some (i, n) => .verifyFault i n

/-! ### The part's ability word (R152, R187) -/

/-- The part's maximum record level as its tables stand (R65, R152). -/
def maxRecordLevel (s : State) : Nat :=
  match s.store.breathing, s.store.shading with
  | some _, some _ => 2
  | some _, none => 1
  | none, _ => 0

/-- The payload of an ABILITY frame begun now: in SILENT a word formed afresh, in ABILITY_DETECT and
ACKNOWLEDGE the latched word, the acknowledge flag set in ACKNOWLEDGE alone (R152, R187). -/
def abilityPayload (l : Link) (s : State) : List Byte :=
  let u := s.link l
  let level := match u.state with
    | .silent => maxRecordLevel s
    | .abilityDetect | .acknowledge | .up => u.latchedLevel.getD (maxRecordLevel s)
  le8 level ++ le8 Config.revision ++ le8 (match l with | .body => 0 | .accessory => 1) ++
    leFlag (decide (u.state = .acknowledge))

/-! ### Transmitters and reply lists (R149, R150) -/

/-- The line rate of a link in baud (R146). -/
def lineRate (straps : Straps) : Link → Nat
  | .body => 1500000
  | .accessory => if straps.accessoryRate then 460800 else 230400

/-- A frame as its bytes leave on the line: marker, kind, payload length, payload, and the CRC of kind, length
and payload, least significant byte first (R52, R186). -/
def TxFrame.bytes (f : TxFrame) : List Byte :=
  let checked := f.kind :: BitVec.ofNat 8 f.payload.length :: f.payload
  0xA5 :: checked ++ le16 (crc16 checked).toNat

/-- The bytes of the frame a link is sending. -/
def lineBytes (s : State) (l : Link) : Option (List Byte) := (s.link l).sending.map fun x => x.1.bytes

/-- The time a frame takes on its line in microseconds: its bytes at ten bit times each, rounded (R1, R146;
log 11). -/
def frameTime (straps : Straps) (l : Link) (f : TxFrame) : Nat :=
  (roundDiv ((f.bytes.length * 10000000 : Nat) : Int) (lineRate straps l)).toNat

/-- The transmitter begins the first frame that waits, when its line is free: the oldest record or
report, then the oldest reply, then an ABILITY frame that has come due (R150). It begins nothing
between the reply of RENEGOTIATE or REINITIALIZE and the restart that follows it (R158, R196; log 17). -/
def startTransmit (l : Link) (s : State) : State :=
  let u := s.link l
  if u.sending.isSome || u.renegotiateDue || decide (s.seq.reinit = .due) then s
  else match u.records with
    | f :: fs => s.setLink l { u with records := fs, sending := some (f, s.now) }
    | [] => match u.replies with
      | f :: fs => s.setLink l { u with replies := fs, sending := some (f, s.now) }
      | [] =>
        if u.abilityWaiting then
          s.setLink l { u with abilityWaiting := false,
                               sending := some (⟨0x01, abilityPayload l s⟩, s.now) }
        else s

/-- A reply joins its link's reply list and the transmitter looks for work (R149, R150). -/
def joinReply (l : Link) (kind : Byte) (payload : List Byte) (s : State) : State :=
  startTransmit l (s.setLink l { s.link l with replies := (s.link l).replies ++ [⟨kind, payload⟩] })

/-- A record or report is handed to a transmitter (R33, R150). -/
def handRecord (l : Link) (f : TxFrame) (s : State) : State :=
  startTransmit l (s.setLink l { s.link l with records := (s.link l).records ++ [f] })

/-- An ABILITY send comes due, and the next after an interval (R150, R153 to R155). -/
def abilitySend (l : Link) (next : Instant) (s : State) : State :=
  startTransmit l (s.setLink l { s.link l with abilityWaiting := true, sendDue := some next })

/-- Whether the accessory link has a READ STORE unanswered (R149). -/
def readStoreOutstanding (s : State) : Bool :=
  !s.store.readStoreWaiting.isEmpty ||
  match s.store.port with
  | some ⟨.readStore _ dropped, _⟩ => !dropped
  | _ => false

/-- The reply of the accessory link's READ STORE joins its list, and behind it the refusals of READ STORE held
back for it, so that replies of one kind leave in the order of their requests (R149, log 33). -/
def answerReadStore (payload : List Byte) (s : State) : State :=
  let u := s.link .accessory
  startTransmit .accessory (s.setLink .accessory
    { u with replies := u.replies ++ ⟨0x44, payload⟩ :: u.heldBack, heldBack := [] })

/-- Whether a link's reply list has no place left, counting the places held for a READ STORE and for the
refusals held back behind it (R149, log 33). -/
def replyListFull (l : Link) (s : State) : Bool :=
  decide (4 ≤ (s.link l).replies.length + (s.link l).heldBack.length +
    (if decide (l = .accessory) && readStoreOutstanding s then 1 else 0))

end Sys2Proof.Machine
end

