-- ==== Sys2Proof/Machine/Tables.lean ====
section
/-! DEFINITION. What flash holds, as the part reads it: the lens description, table headers, scan
verdicts, the active-table choice and cells (chapter 4; layouts of R191). -/

namespace Sys2Proof.Machine

/-- The kind a header's kind byte names (R55). -/
def kindOf : Nat → Option TableKind
  | 0 => some .breathing
  | 1 => some .shading
  | _ => none

/-- A list of `n` knots of two bytes each. -/
def knotsAt (m : List Host.Cell) (a n : Nat) : List Nat := (List.range n).map fun i => flash16 m (a + 2 * i)

/-- Kind and generation as read (R60). -/
def headerAt (m : List Host.Cell) (sector : BitVec 3) : HeaderRead :=
  ⟨(flashRead m (sectorBase sector + 2)).toNat, flash16 m (sectorBase sector + 3)⟩

/-- The header copy of a table of a kind at a sector (R55, R58, R191): Rn clamped, the iris list of a
breathing table one knot of value 0. -/
def tableAt (m : List Host.Cell) (sector : BitVec 3) (kind : TableKind) : ActiveTable :=
  let b := sectorBase sector
  let nf := (flashRead m (b + 9)).toNat
  let nz := (flashRead m (b + 10)).toNat
  match kind with
  | .breathing =>
    { sector := sector, generation := flash16 m (b + 3), focus := knotsAt m (b + 11) nf,
      zoom := knotsAt m (b + 11 + 2 * nf) nz, iris := [0], rn := 0 }
  | .shading =>
    let ni := (flashRead m (b + 11)).toNat
    { sector := sector, generation := flash16 m (b + 3), focus := knotsAt m (b + 14) nf,
      zoom := knotsAt m (b + 14 + 2 * nf) nz, iris := knotsAt m (b + 14 + 2 * nf + 2 * nz) ni,
      rn := clampNat 5000 40000 (flash16 m (b + 12)) }

/-- The header length for a table's knot counts (R191). -/
def headerLength (kind : TableKind) (t : ActiveTable) : Nat :=
  match kind with
  | .breathing => 11 + 2 * (t.focus.length + t.zoom.length)
  | .shading => 14 + 2 * (t.focus.length + t.zoom.length + t.iris.length)

/-- The length of a cell (R191). -/
def cellLength : TableKind → Nat
  | .breathing => 8
  | .shading => 18

/-- The total length the knot counts call for (R55). -/
def tableLength (kind : TableKind) (t : ActiveTable) : Nat :=
  headerLength kind t + t.focus.length * t.zoom.length * t.iris.length * cellLength kind

/-- A list is strictly ascending. -/
def ascending : List Nat → Bool
  | [] => true
  | [_] => true
  | a :: b :: rest => decide (a < b) && ascending (b :: rest)

/-- Check 3 of R57: knot counts in their ranges for the kind and every list strictly ascending. -/
def knotsPass (t : ActiveTable) : Bool :=
  decide (2 ≤ t.focus.length ∧ t.focus.length ≤ 16) &&
  decide (1 ≤ t.zoom.length ∧ t.zoom.length ≤ 12) &&
  decide (1 ≤ t.iris.length ∧ t.iris.length ≤ 10) &&
  ascending t.focus && ascending t.zoom && ascending t.iris

/-- The verdict of a sector from 1 to 6: the first check of R57 that fails. -/
def sectorVerdict (m : List Host.Cell) (sector : BitVec 3) : Verdict :=
  let b := sectorBase sector
  let h := headerAt m sector
  if h.generation = 0 ∨ 65534 < h.generation then .noGeneration
  else match kindOf h.kind with
    | none => .badKind
    | some kind =>
      let t := tableAt m sector kind
      if !knotsPass t then .badKnots
      else if flash32 m (b + 5) ≠ tableLength kind t then .lengthMismatch
      else if crc16 (flashBytes m (b + 2) (tableLength kind t - 2)) ≠ BitVec.ofNat 16 (flash16 m b)
        then .crcFail
      else .valid

/-- The validity of sector 0 (R50, R191). -/
def sector0Passes (m : List Host.Cell) : Bool :=
  crc16 (flashBytes m 2 433) == BitVec.ofNat 16 (flash16 m 0)

/-- Sectors 1 to 6. -/
def tableSectors : List (BitVec 3) := [1, 2, 3, 4, 5, 6]

/-- The table a sector offers for a kind: one that is VALID and of that kind (R58). -/
def offers (m : List Host.Cell) (kind : TableKind) (sector : BitVec 3) : Option ActiveTable :=
  if sectorVerdict m sector = .valid ∧ kindOf (headerAt m sector).kind = some kind
  then some (tableAt m sector kind) else none

/-- The better of two offers, the first from the lower sector: the higher generation, the lower sector
at equal generations (R58). -/
def betterTable : Option ActiveTable → Option ActiveTable → Option ActiveTable
  | none, r => r
  | some t, none => some t
  | some t, some r => if r.generation ≤ t.generation then some t else some r

/-- The active-table choice of a kind (R58). -/
def chooseTable (m : List Host.Cell) (kind : TableKind) : Option ActiveTable :=
  tableSectors.foldr (fun sector best => betterTable (offers m kind sector) best) none

/-- The verdicts of sectors 0 to 6 (R50, R57, R60). -/
def scanVerdicts (m : List Host.Cell) : List Verdict :=
  (if sector0Passes m then .valid else .crcFail) :: tableSectors.map (sectorVerdict m)

/-- The breakpoints kept by step 2 of R53, after one of count `c`. -/
def risingFrom (c : Nat) : List Breakpoint → List Breakpoint
  | [] => []
  | b :: bs => if c < b.count then b :: risingFrom b.count bs else []

/-- The breakpoint stored at an address (R191). -/
def breakpointAt (m : List Host.Cell) (a : Nat) : Breakpoint := ⟨flash16 m a, flash16 m (a + 2)⟩

/-- An axis map as the working description holds it (R53). -/
def mapAt (m : List Host.Cell) (a : Nat) : AxisMap :=
  let n := clampNat 2 33 (flashRead m a).toNat
  let first := breakpointAt m (a + 1)
  ⟨first, risingFrom first.count ((List.range (n - 1)).map fun i => breakpointAt m (a + 5 + 4 * i))⟩

/-- The working description a scan builds from a valid sector 0 (R50, R53, R54, R191). -/
def descriptionAt (m : List Host.Cell) : Description :=
  { model := textOf (flashBytes m 2 24), serial := flash32 m 26,
    maps := ⟨mapAt m 30, mapAt m 163, mapAt m 296⟩,
    defaultAnchor := clampNat 0 20000 (flash16 m 429),
    primeFocal := clampNat 1 65534 (flash16 m 431),
    assumedIris := clampNat 0 200 (flash16 m 433) }

/-- The number of breakpoints in use in a map (R53, R177). -/
def AxisMap.inUse (m : AxisMap) : Nat := m.rest.length + 1

/-- The number of a cell under its table's header copy (R56). -/
def cellNumber (t : ActiveTable) (k : Key) : Nat :=
  k.focus + t.focus.length * (k.zoom + t.zoom.length * k.iris)

/-- The address of a cell (R56, R61). -/
def cellAddress (t : ActiveTable) (k : Key) : Nat :=
  sectorBase t.sector + headerLength k.kind t + cellNumber t k * cellLength k.kind

/-- A cell decoded and clamped to its ranges at use (R61, R191). -/
def cellAt (m : List Host.Cell) (t : ActiveTable) (k : Key) : Cell :=
  let a := cellAddress t k
  match k.kind with
  | .breathing =>
    .breathing (clampInt 800000 1250000 (flash32 m a)) (clampInt (-5000) 5000 (signed16 (flash16 m (a + 4))))
      (clampInt (-5000) 5000 (signed16 (flash16 m (a + 6))))
  | .shading =>
    .shading ((List.range 9).map fun j => clampInt 4096 32767 (flash16 m (a + 2 * j)))

/-- A kind's choice differs from another in sector or generation, or in being there (R62). -/
def choiceChanged : Option ActiveTable → Option ActiveTable → Bool
  | none, none => false
  | some a, some b => decide (a.sector ≠ b.sector) || decide (a.generation ≠ b.generation)
  | _, _ => true

/-- The marker pattern of R77 (R191). -/
def markerPattern : List Byte :=
  [0x3C, 0x5A, 0x96, 0xC3, 0x0F, 0xE1, 0x2D, 0x78, 0xB4, 0x4B, 0x87, 0x1E, 0xD2, 0x69, 0xA0, 0x05]

/-- The address of the marker area: the first 16 bytes of sector 7 (R76). -/
def markerBase : Nat := sectorBase 7

/-- The read-protection state the marker area gives (R76). -/
def markerSet (m : List Host.Cell) : Bool := (flashBytes m markerBase 16).any fun b => b != erasedByte

end Sys2Proof.Machine
end

