-- ==== Sys2Proof/Machine/CellCache.lean ====
section
/-! DEFINITION. The cell cache's own operations: sets and ways, LRU order, the fill queue, table changes
and the lock walk (chapter 6). -/

namespace Sys2Proof.Machine

/-! ### Sets and ways -/

/-- The set a key is placed in (R84). -/
def setIndex (k : Key) : Nat := (k.focus + 5 * k.zoom + 11 * k.iris + 29 * k.kind.code) % 64

/-- The ways of a key's set. -/
def setOf (k : Key) (sets : List (List Way)) : List Way := sets.getD (setIndex k) []

/-- A way is valid and holds the key. -/
def Way.holds (k : Key) (w : Way) : Bool :=
  match w.content with
  | some c => decide (c.key = k)
  | none => false

/-- A way is locked (R85). -/
def Way.isLocked (w : Way) : Bool :=
  match w.content with
  | some c => c.locked
  | none => false

/-- The number of locked entries of a set. -/
def lockedCount (ways : List Way) : Nat := ways.countP Way.isLocked

/-- The ways after way `i` has moved to rank 0: the ways above it move down one rank (R85). -/
def touchWay (i : Nat) (ways : List Way) : List Way :=
  match ways[i]? with
  | none => ways
  | some w => (ways.map fun v => if v.rank < w.rank then { v with rank := v.rank + 1 } else v).set i
      { w with rank := 0 }

/-- Gives way `i` a content. -/
def fillWay (i : Nat) (c : WayContent) (ways : List Way) : List Way :=
  match ways[i]? with
  | none => ways
  | some w => ways.set i { w with content := some c }

/-- The unlocked way of highest rank, counting from index `i`, with its rank. -/
def oldestUnlocked : Nat → List Way → Option (Nat × Nat)
  | _, [] => none
  | i, w :: ws =>
    match oldestUnlocked (i + 1) ws with
    | none => if w.isLocked then none else some (i, w.rank)
    | some (j, r) => if !w.isLocked && decide (r < w.rank) then some (i, w.rank) else some (j, r)

/-- The way a new cell takes: the lowest-numbered invalid way, else the unlocked way of highest rank
(R87). -/
def victimWay (ways : List Way) : Option Nat :=
  match ways.findIdx? fun w => w.content.isNone with
  | some i => some i
  | none => (oldestUnlocked 0 ways).map Prod.fst

/-- Places a cell in its set: a refresh that keeps the locked mark, or a new unlocked entry (R87). -/
def placeInSet (k : Key) (cell : Cell) (ways : List Way) : List Way :=
  match ways.findIdx? (Way.holds k) with
  | some i =>
    let locked := ((ways[i]?).map Way.isLocked).getD false
    touchWay i (fillWay i ⟨k, cell, locked⟩ ways)
  | none =>
    match victimWay ways with
    | some i => touchWay i (fillWay i ⟨k, cell, false⟩ ways)
    | none => ways

/-- Locks a key's entry in place, leaving the order unchanged (R85, R96). -/
def lockInSet (k : Key) (ways : List Way) : List Way :=
  ways.map fun w =>
    match w.content with
    | some c => if c.key = k then { w with content := some { c with locked := true } } else w
    | none => w

/-- Unlocks a way and keeps it valid (R85, R98). -/
def Way.unlocked (w : Way) : Way := { w with content := w.content.map fun c => { c with locked := false } }

/-- Replaces the set of a key by a function of it. -/
def changeSet (k : Key) (f : List Way → List Way) (sets : List (List Way)) : List (List Way) :=
  sets.set (setIndex k) (f (setOf k sets))

/-- Places a cell in the cache; a disabled cache keeps none (R87, R100). -/
def placeCell (k : Key) (cell : Cell) (c : Cache) : Cache :=
  if c.disabled then c else { c with sets := changeSet k (placeInSet k cell) c.sets }

/-- A key is valid in the cache. -/
def isCached (k : Key) (c : Cache) : Bool := (setOf k c.sets).any (Way.holds k)

/-- The payload the cache holds for a key. -/
def cachedCell (k : Key) (c : Cache) : Option Cell :=
  ((setOf k c.sets).find? (Way.holds k)).bind fun w => w.content.map WayContent.cell

/-- A lookup that hits moves its way to rank 0 (R85, R86). -/
def touchKey (k : Key) (c : Cache) : Cache :=
  match (setOf k c.sets).findIdx? (Way.holds k) with
  | some i => { c with sets := changeSet k (touchWay i) c.sets }
  | none => c

/-- Unlocks every entry, keeping each valid (R94, R98, R99). -/
def unlockAll (c : Cache) : Cache := { c with sets := c.sets.map fun ways => ways.map Way.unlocked }

/-! ### The fill queue -/

/-- The number of entries in the queue (R88). -/
def queueLength (c : Cache) : Nat := c.demand.length + c.prefetch.length

/-- The oldest entry not being read is removed, when there is one. -/
def dropOldest : List FillEntry → Option (List FillEntry)
  | [] => none
  | e :: es => if e.beingRead then (dropOldest es).map (e :: ·) else some es

/-- A demand request settled against the queue, and whether the key is queued (R89). -/
def demandRequest (k : Key) (generation : Nat) (c : Cache) : Cache × Bool :=
  if c.demand.any fun e => decide (e.key = k) then (c, true)
  else match c.prefetch.find? fun e => decide (e.key = k) with
    | some e =>
      ({ c with demand := c.demand ++ [e],
                prefetch := c.prefetch.filter fun e => decide (e.key ≠ k) }, true)
    | none =>
      if queueLength c < 16 then ({ c with demand := c.demand ++ [⟨k, generation, false⟩] }, true)
      else match dropOldest c.prefetch with
        | some p => ({ c with demand := c.demand ++ [⟨k, generation, false⟩], prefetch := p }, true)
        | none => (c, false)

/-- A prefetch request settled against the cache and the queue (R90). -/
def prefetchRequest (k : Key) (generation : Nat) (c : Cache) : Cache :=
  if isCached k c || (c.demand.any fun e => decide (e.key = k)) ||
      (c.prefetch.any fun e => decide (e.key = k)) then c
  else if c.prefetch.length < 8 ∧ queueLength c < 16 then
    { c with prefetch := c.prefetch ++ [⟨k, generation, false⟩] }
  else match dropOldest c.prefetch with
    | some p => { c with prefetch := p ++ [⟨k, generation, false⟩] }
    | none => c

/-- The first entry of a part not being read becomes being read (R80, R88). -/
def markFirst : List FillEntry → List FillEntry
  | [] => []
  | e :: es => if e.beingRead then e :: markFirst es else { e with beingRead := true } :: es

/-- The first entry of a part not being read. -/
def firstReady (es : List FillEntry) : Option FillEntry := es.find? fun e => !e.beingRead

/-- The queue entry whose read is in progress, for a key. -/
def readEntry (k : Key) (c : Cache) : Option FillEntry :=
  (c.demand ++ c.prefetch).find? fun e => decide (e.key = k) && e.beingRead

/-- The queue without the entry of a key whose read has ended (R91). -/
def removeRead (k : Key) (c : Cache) : Cache :=
  let keep := fun e : FillEntry => !(decide (e.key = k) && e.beingRead)
  { c with demand := c.demand.filter keep, prefetch := c.prefetch.filter keep }

/-! ### Table changes and the lock walk -/

/-- The entries of a kind become invalid and unlocked, the order kept (R93). -/
def Way.without (kind : TableKind) (w : Way) : Way :=
  match w.content with
  | some c => if c.key.kind = kind then { w with content := none } else w
  | none => w

/-- A walk that is WALKING becomes ABANDONED with its counts as they stand (R97). -/
def abandonWalking (w : Walk) : Walk :=
  if w.state = .walking then { w with state := .abandoned, rest := [] } else w

/-- A read of the lock walk in progress on the port is to be discarded when it ends (R94, R97, R99). -/
def dropWalkRead (port : Option PortRead) : Option PortRead :=
  match port with
  | some ⟨.walk k cell g _, t⟩ => some ⟨.walk k cell g true, t⟩
  | p => p

/-- What the cache does when a kind's table has changed or been withdrawn (R93). -/
def invalidateKind (kind : TableKind) (s : State) : State :=
  let c := s.cache
  let keep := fun e : FillEntry => decide (e.key.kind ≠ kind) || e.beingRead
  let s := s.setCache { c with
    sets := c.sets.map fun ways => ways.map (Way.without kind),
    demand := c.demand.filter keep, prefetch := c.prefetch.filter keep,
    walk := abandonWalking c.walk }
  if c.walk.state = .walking then s.setStore { s.store with port := dropWalkRead s.store.port } else s

/-- What the cache does when a mark is set or deleted (R99): whether a path was released, and the state. -/
def markChanged (id : Nat) (s : State) : Bool × State :=
  let c := s.cache
  let isEnd := match c.walk.ends with
    | some (a, b) => decide (id = a) || decide (id = b)
    | none => false
  if isEnd && (decide (c.walk.state = .walking) || decide (c.walk.state = .done)) then
    let s' := s.setCache { unlockAll c with walk := { c.walk with state := .abandoned, rest := [] } }
    (true, s'.setStore { s'.store with port := dropWalkRead s'.store.port })
  else (false, s)

/-- The walk takes the cells of its plan that need no read, one after another, and stops at the first
that needs one or at the end of the plan (R96). -/
def walkCells : List Key → List (List Way) → Nat → Nat → List Key × List (List Way) × Nat × Nat
  | [], sets, locked, skipped => ([], sets, locked, skipped)
  | k :: ks, sets, locked, skipped =>
    if 3 ≤ lockedCount (setOf k sets) then walkCells ks sets locked (skipped + 1)
    else if (setOf k sets).any (Way.holds k) then
      walkCells ks (changeSet k (lockInSet k) sets) (locked + 1) skipped
    else (k :: ks, sets, locked, skipped)

/-- The walk advances as far as it can without a read; when it has taken the last cell of its plan it is
DONE and raises LOCK_DONE (R96, R97). -/
def walkAdvance (s : State) : State :=
  let c := s.cache
  if c.walk.state ≠ .walking then s
  else
    let (rest, sets, locked, skipped) := walkCells c.walk.rest c.sets c.walk.locked c.walk.skipped
    let finished := rest.isEmpty
    let s := s.setCache { c with sets := sets, walk := { c.walk with
      rest := rest, locked := locked, skipped := skipped,
      state := if finished then .done else .walking } }
    raiseIf finished .lockDone s

end Sys2Proof.Machine
end

