-- ==== Sys2Proof/Machine/Axes.lean ====
section
/-! DEFINITION. The encoder front end's own operations: encoder answers, conversion through the axis
maps, the axis state machine, unavailable values (chapter 1). -/

namespace Sys2Proof.Machine

/-! ### Encoder answers (R4, R5) -/

/-- The number of set bits among the low `n` bits. -/
def setBits (x : Nat) : Nat → Nat
  | 0 => 0
  | n + 1 => setBits x n + (if x.testBit n then 1 else 0)

/-- The 14 count bits of an answer, which is sent most significant bit first. -/
def answerCount (answer : BitVec 16) : Count := answer.extractLsb' 2 14

/-- An answer is a valid sample: error bit clear and count and parity bits together even (R4). A silent
encoder answers all ones, which fails. -/
def answerValid (answer : BitVec 16) : Bool :=
  !answer.getLsbD 1 &&
  decide ((setBits (answerCount answer).toNat 14 + (if answer.getLsbD 0 then 1 else 0)) % 2 = 0)

/-- The count as filed: reversed when the sense strap was sampled high (R5). -/
def senseCount (high : Bool) (c : Count) : Count := if high then BitVec.ofNat 14 (16383 - c.toNat) else c

/-- The sample an answer gives: an invalid one is filed with count 0 (R4, R5). -/
def sampleOf (high : Bool) (instant : Instant) (answer : BitVec 16) : Sample :=
  if answerValid answer then ⟨instant, senseCount high (answerCount answer), true⟩ else ⟨instant, 0, false⟩

/-! ### Conversion (R11, R12) -/

/-- The value along the segments from a breakpoint: the first segment that holds the count, or the last
breakpoint's value beyond the end. -/
def segmentValue (a : Breakpoint) : List Breakpoint → Nat → Int
  | [], _ => a.value
  | b :: rest, c =>
    if c ≤ b.count then
      a.value + roundDiv (((b.value : Int) - a.value) * ((c : Int) - a.count)) (b.count - a.count)
    else segmentValue b rest c

/-- The last breakpoint of a map. -/
def AxisMap.last (m : AxisMap) : Breakpoint := m.rest.getLast?.getD m.first

/-- A count falls outside a map (R12). -/
def outsideOf (m : AxisMap) (c : Nat) : Bool := decide (c < m.first.count) || decide (m.last.count < c)

/-- The unit range of an axis (R11). -/
def unitClamp (a : Axis) (v : Int) : Nat :=
  (match a with
   | .focus => clampInt 0 20000 v
   | .zoom => clampInt 1 65534 v
   | .iris => clampInt 0 200 v).toNat

/-- A count converted through a map (R11, R12; log 23). -/
def convert (a : Axis) (m : AxisMap) (c : Nat) : Nat :=
  unitClamp a (if c < m.first.count then m.first.value else segmentValue m.first m.rest c)

/-- The front end with one axis replaced. -/
def FrontEnd.setAxis (a : Axis) (u : AxisUnit) (f : FrontEnd) : FrontEnd := { f with axes := f.axes.set a u }

/-- Notes a conversion of an axis: OUTSIDE_MAP follows it, and AXIS_RANGE is raised when it fell
outside (R12). -/
def noteConversion (a : Axis) (outside : Bool) (s : State) : State :=
  let u := s.front.axes.get a
  raiseIf outside .axisRange (s.setFront (s.front.setAxis a { u with outsideMap := outside }))

/-- The default of an absent axis (R13). Focus is always fitted. -/
def absentDefault (a : Axis) (cp : MapCopy) : Nat :=
  match a with
  | .iris => cp.assumedIris
  | .zoom | .focus => cp.primeFocal

/-- The front end's map copy is discarded: every units value becomes unavailable and every OUTSIDE_MAP
clear (R7, R10). -/
def discardMaps (f : FrontEnd) : FrontEnd :=
  { f with
    mapCopy := none,
    axes := f.axes.mapAxes fun _ u =>
      { u with outsideMap := false, latest := u.latest.map fun r => { r with value := none } } }

/-! ### The axis state machine (R8) -/

/-- The runs and the state after a filed sample (R8). -/
def axisStep (valid : Bool) (u : AxisUnit) : AxisUnit :=
  match u.state, valid with
  | .absent, _ => u
  | .seeking, true => { u with state := .live, invalidRun := 0 }
  | .live, true => { u with invalidRun := 0 }
  | .stale, true => { u with state := .live, invalidRun := 0 }
  | .lost, true =>
    if 2 ≤ u.validRun + 1 then { u with state := .live, invalidRun := 0, validRun := 0 }
    else { u with validRun := u.validRun + 1 }
  | .live, false => { u with state := .stale, invalidRun := 1 }
  | .lost, false => { u with validRun := 0, invalidRun := 8 }
  | .seeking, false | .stale, false =>
    if 8 ≤ u.invalidRun + 1 then { u with state := .lost, invalidRun := 8, validRun := 0 }
    else { u with invalidRun := u.invalidRun + 1 }

/-- A sample appended at the newest position; a full ring loses its oldest (R6). -/
def fileSample (x : Sample) (ring : List Sample) : List Sample := (ring ++ [x]).drop (ring.length + 1 - 32)

/-- A read completes with a sample: it is filed, a valid one is converted and rewrites the latest valid
sample record, and the axis state moves (R3, R6, R7, R8). -/
def applySample (a : Axis) (x : Sample) (s : State) : State :=
  let u := s.front.axes.get a
  let u := axisStep x.valid { u with ring := fileSample x u.ring, reading := none }
  if x.valid then
    match s.front.mapCopy with
    | none =>
      s.setFront (s.front.setAxis a { u with latest := some ⟨x.instant, x.count, none⟩ })
    | some cp =>
      let m := cp.maps.get a
      let s := s.setFront (s.front.setAxis a
        { u with latest := some ⟨x.instant, x.count, some (convert a m x.count.toNat)⟩ })
      noteConversion a (outsideOf m x.count.toNat) s
  else s.setFront (s.front.setAxis a u)

/-! ### Reported values (R13 to R15) -/

/-- The focus distance of a power in mm; 65 535 is infinity (R14). -/
def focusDistance (power : Nat) : Nat :=
  if power < 16 then 65535 else (roundDiv 1000000 power).toNat

/-- An axis's value in lens units as the front end holds it, none while unavailable (R7, R13, R15). -/
def unitsValue (s : State) (a : Axis) : Option Nat :=
  match s.front.mapCopy with
  | none => none
  | some cp =>
    if s.fitted a then (s.front.axes.get a).latest.bind LatestSample.value
    else some (absentDefault a cp)

/-- A units field, 65 535 while unavailable (R15). -/
def unitsField (v : Option Nat) : Nat := v.getD 65535

/-- A focus distance field, 0 while the power is unavailable (R15). -/
def distanceField (v : Option Nat) : Nat :=
  match v with
  | some p => focusDistance p
  | none => 0

/-- The count and instant fields of an axis's latest valid sample (R15, R16). -/
def latestFields (s : State) (a : Axis) : Nat × Nat :=
  match (s.front.axes.get a).latest with
  | some r => if s.fitted a then (r.count.toNat, r.instant.toNat) else (65535, 0)
  | none => (65535, 0)

end Sys2Proof.Machine
end

