-- ==== Sys2Proof/Machine/Predict.lean ====
section
/-! DEFINITION. The predictor: one count of each fitted axis at a frame's target instant, and the
focus direction of travel (chapter 3). -/

namespace Sys2Proof.Machine

/-- The valid samples of a ring, oldest first. -/
def validSamples (ring : List Sample) : List Sample := ring.filter Sample.valid

/-- The absolute value of the signed difference of two instants. -/
def instantGap (a b : Instant) : Nat := (instantDiff a b).natAbs

/-- The sample nearest to an instant; of two equally near the older (R39). -/
def nearestSample (t : Instant) : List Sample → Option Sample
  | [] => none
  | x :: xs =>
    match nearestSample t xs with
    | none => some x
    | some y => if instantGap x.instant t ≤ instantGap y.instant t then some x else some y

/-- A count difference as an exact number. -/
def countDiff (a b : Count) : Int := (a.toNat : Int) - b.toNat

/-- The two samples of the velocity, older first, or none for zero velocity (R39). -/
def velocityOf (span deadband : Nat) (valid : List Sample) : Option (Sample × Sample) :=
  match valid.getLast? with
  | none => none
  | some x1 =>
    match nearestSample (subInterval x1.instant span) valid.dropLast with
    | none => none
    | some x0 => if (countDiff x1.count x0.count).natAbs ≤ deadband then none else some (x0, x1)

/-- An exact count clamped to 0 to 16 383 (R40, R43). -/
def clampCount (v : Int) : Count := BitVec.ofNat 14 (clampInt 0 16383 v).toNat

/-- The count extrapolated past the newest valid sample, over at most the horizon (R40). -/
def extrapolate (horizon : Nat) (t : Instant) (newest : Sample) (velocity : Option (Sample × Sample)) : Count :=
  match velocity with
  | none => newest.count
  | some (x0, x1) =>
    if horizon = 0 then newest.count
    else
      let delta := min (instantDiff t newest.instant).toNat horizon
      clampCount ((newest.count.toNat : Int) +
        roundDiv (countDiff x1.count x0.count * delta) (instantDiff x1.instant x0.instant).toNat)

/-- The count interpolated between the valid samples around an instant (R41). -/
def interpolate (t : Instant) (valid : List Sample) (newest : Sample) : Count :=
  match valid.find? fun x => decide (x.instant = t) with
  | some x => x.count
  | none =>
    match (valid.filter fun x => decide (instantDiff x.instant t < 0)).getLast?,
          valid.find? fun x => decide (0 < instantDiff x.instant t) with
    | some xa, some xb =>
      clampCount ((xa.count.toNat : Int) + roundDiv
        (countDiff xb.count xa.count * instantDiff t xa.instant) (instantDiff xb.instant xa.instant).toNat)
    | _, _ => newest.count

/-- What the predictor hands over for a fitted axis (R36); `velocity` is none for zero. -/
structure AxisPrediction where
  count : Count
  held : Bool
  stale : Bool
  velocity : Option (Sample × Sample)
  deriving DecidableEq, Repr

/-- The held count: the axis's held-count record, else its latest valid sample's count, else the first
breakpoint's count clamped (R43). -/
def heldCount (record : Option Count) (latest : Option LatestSample) (m : AxisMap) : Count :=
  match record, latest with
  | some c, _ => c
  | none, some r => r.count
  | none, none => clampCount m.first.count

/-- A held axis (R43). -/
def heldPrediction (record : Option Count) (latest : Option LatestSample) (m : AxisMap) : AxisPrediction :=
  ⟨heldCount record latest m, true, false, none⟩

/-- The prediction from a ring with a valid sample: extrapolated, interpolated or stale (R38 to R42). -/
def ringPrediction (ms0 : MS0) (t : Instant) (valid : List Sample) (oldest newest : Sample) : AxisPrediction :=
  let v := velocityOf ms0.span ms0.deadband valid
  if 0 < instantDiff t newest.instant then ⟨extrapolate ms0.horizon t newest v, false, false, v⟩
  else if 0 ≤ instantDiff t oldest.instant then ⟨interpolate t valid newest, false, false, v⟩
  else ⟨oldest.count, false, true, v⟩

/-- The prediction of a fitted axis at an instant (R37). -/
def predictAxis (ms0 : MS0) (t : Instant) (u : AxisUnit) (record : Option Count) (m : AxisMap) : AxisPrediction :=
  match u.state with
  | .live | .stale =>
    match (validSamples u.ring).head?, (validSamples u.ring).getLast? with
    | some oldest, some newest => ringPrediction ms0 t (validSamples u.ring) oldest newest
    | _, _ => heldPrediction record u.latest m
  | .seeking | .lost | .absent => heldPrediction record u.latest m

/-- The focus direction of travel (R47). -/
inductive Direction where
  | rising
  | falling
  | still
  deriving DecidableEq, Repr

/-- The direction from the two samples of the focus velocity, in power (R47). Both values are clamped to the
unit range before they are compared, the model's choice (log 23). -/
def directionOf (m : AxisMap) (velocity : Option (Sample × Sample)) : Direction :=
  match velocity with
  | none => .still
  | some (x0, x1) =>
    let v0 := convert .focus m x0.count.toNat
    let v1 := convert .focus m x1.count.toNat
    if v0 < v1 then .rising else if v1 < v0 then .falling else .still

/-- The three axes' predictions for a frame. -/
structure FramePrediction where
  position : Position
  axisHeld : Bool
  targetStale : Bool
  direction : Direction
  deriving DecidableEq, Repr

/-- An axis's prediction as the front end and the engine stand, none for an ABSENT axis (R36, R45). -/
def axisPrediction (ms0 : MS0) (t : Instant) (cp : MapCopy) (s : State) (a : Axis) : Option AxisPrediction :=
  if s.fitted a then
    some (predictAxis ms0 t (s.front.axes.get a) (s.engine.heldCounts.get a) (cp.maps.get a))
  else none

/-- An axis's value in lens units for a frame (R45, R46). -/
def predictedUnits (a : Axis) (cp : MapCopy) : Option AxisPrediction → Nat
  | some p => convert a (cp.maps.get a) p.count.toNat
  | none => absentDefault a cp

/-- The prediction of a frame (R36 to R47). -/
def predictFrame (ms0 : MS0) (t : Instant) (cp : MapCopy) (s : State) : FramePrediction :=
  let p := axisPrediction ms0 t cp s
  let any := fun f : AxisPrediction → Bool => [p .focus, p .zoom, p .iris].any fun x => (x.map f).getD false
  { position := { focusCount := ((p .focus).map AxisPrediction.count).getD 0,
                  power := predictedUnits .focus cp (p .focus),
                  focal := predictedUnits .zoom cp (p .zoom),
                  iris := predictedUnits .iris cp (p .iris) },
    axisHeld := any AxisPrediction.held, targetStale := any AxisPrediction.stale,
    direction := directionOf cp.maps.focus ((p .focus).bind AxisPrediction.velocity) }

/-- What the prediction of one axis leaves behind: its held-count record, its OUTSIDE_MAP status and
AXIS_RANGE (R12, R44, R46). -/
def notePrediction (a : Axis) (cp : MapCopy) (p : Option AxisPrediction) (s : State) : State :=
  match p with
  | none => s
  | some p =>
    noteConversion a (outsideOf (cp.maps.get a) p.count.toNat)
      (s.setEngine { s.engine with heldCounts := s.engine.heldCounts.set a (some p.count) })

/-- What a frame's prediction leaves behind: each axis's, and the last prediction record (R135). -/
def notePredictions (ms0 : MS0) (t : Instant) (cp : MapCopy) (s : State) : State :=
  let p := axisPrediction ms0 t cp s
  let position := (predictFrame ms0 t cp s).position
  let s := notePrediction .iris cp (p .iris) (notePrediction .zoom cp (p .zoom) (notePrediction .focus cp (p .focus) s))
  s.setEngine { s.engine with lastPrediction := some position }

end Sys2Proof.Machine
end

