-- ==== Sys2Proof/Machine/Correct.lean ====
section
/-! DEFINITION. The correction computation: brackets, needed cells, scale, shift, shading, holding and
what a computation delivers (chapter 7, R143). -/

namespace Sys2Proof.Machine

/-! ### Brackets (R107) -/

/-- The bracket of a value above knot `a`, which is knot `i`, among the knots that follow. -/
def bracketFrom (i a : Nat) : List Nat → Nat → Bracket
  | [], _ => ⟨i, i, 0, false⟩
  | [b], x =>
    if x < b then ⟨i, i + 1, (roundDiv (((x - a) * 4096 : Nat) : Int) (b - a)).toNat, false⟩
    else ⟨i, i + 1, 4096, decide (b < x)⟩
  | b :: c :: rest, x =>
    if x < b then ⟨i, i + 1, (roundDiv (((x - a) * 4096 : Nat) : Int) (b - a)).toNat, false⟩
    else bracketFrom (i + 1) b (c :: rest) x

/-- The bracket of a value in a knot list (R107). -/
def bracket (knots : List Nat) (x : Nat) : Bracket :=
  match knots with
  | [] => ⟨0, 0, 0, false⟩
  | [_] => ⟨0, 0, 0, false⟩
  | a :: b :: rest => if x ≤ a then ⟨0, 1, 0, decide (x < a)⟩ else bracketFrom 0 a (b :: rest) x

/-! ### Corners and needed cells (R109) -/

/-- A corner of a bracket: the cell's key and its weight product. -/
structure Corner where
  key : Key
  weight : Nat
  deriving DecidableEq, Repr

/-- The two knots of a bracket with their shares, lower first. -/
def Bracket.shares (b : Bracket) : List (Nat × Nat) := [(b.lower, 4096 - b.weight), (b.upper, b.weight)]

/-- The four breathing corners: lower focus before upper, then lower zoom before upper (R135, log 13). -/
def breathingCorners (f z : Bracket) : List Corner :=
  f.shares.flatMap fun x => z.shares.map fun y => ⟨⟨.breathing, x.1, y.1, 0⟩, x.2 * y.2⟩

/-- The eight shading corners: the four at the lower iris index before the four at the upper (R135). -/
def shadingCorners (f z i : Bracket) : List Corner :=
  i.shares.flatMap fun k => f.shares.flatMap fun x => z.shares.map fun y =>
    ⟨⟨.shading, x.1, y.1, k.1⟩, x.2 * y.2 * k.2⟩

/-- A key joins a list once. -/
def addKey (ks : List Key) (k : Key) : List Key := if ks.contains k then ks else ks ++ [k]

/-- The keys of the corners of non-zero weight, each once, in order (R109, R135). -/
def neededKeys (corners : List Corner) : List Key :=
  ((corners.filter fun c => c.weight != 0).map Corner.key).foldl addKey []

/-- A field of a needed cell that has been received. -/
def needField (needs : List Need) (f : Cell → Int) (k : Key) : Int :=
  match needs.find? fun n => decide (n.key = k) with
  | some ⟨_, some c⟩ => f c
  | _ => 0

/-- The sum of the corner values times their weights; a corner of weight 0 adds nothing. -/
def mixCorners (needs : List Need) (f : Cell → Int) : List Corner → Int
  | [] => 0
  | c :: cs => (if c.weight = 0 then 0 else c.weight * needField needs f c.key) + mixCorners needs f cs

/-! ### Fields of cells -/

def Cell.m : Cell → Int
  | .breathing m _ _ => m
  | .shading _ => 0

def Cell.dx : Cell → Int
  | .breathing _ dx _ => dx
  | .shading _ => 0

def Cell.dy : Cell → Int
  | .breathing _ _ dy => dy
  | .shading _ => 0

def Cell.gain (j : Nat) : Cell → Int
  | .breathing _ _ _ => 0
  | .shading g => g.getD j 0

/-- Bilinear interpolation of a field (R110). -/
def bilinear (needs : List Need) (f z : Bracket) (field : Cell → Int) : Int :=
  roundDiv (mixCorners needs field (breathingCorners f z)) 16777216

/-- Trilinear interpolation of a gain (R118). -/
def trilinear (needs : List Need) (f z i : Bracket) (j : Nat) : Int :=
  roundDiv (mixCorners needs (Cell.gain j) (shadingCorners f z i)) 68719476736

/-! ### Scale (R112 to R116, R121, R122) -/

/-- A scale with the flags found on its way. -/
structure ScaleResult where
  scale : Int
  first : Bool
  clamped : Bool
  slewed : Bool
  deriving DecidableEq, Repr

/-- The least scale of a frame format (R114). -/
def scaleMin (f : FrameFormat) : Int := 1000000 - f.margin

/-- The greatest scale of a frame format (R114). -/
def scaleMax (f : FrameFormat) : Int := 1000000 + f.cropLimit

/-- The slew of R115: the slewed scale and whether the limit acted. -/
def slewScale (limit : Nat) (previous : Previous) (target : Int) : Int × Bool :=
  if limit = 0 then (target, false)
  else if previous.first then (target, false)
  else match previous.scale with
    | none => (target, false)
    | some p =>
      if (target - p).natAbs ≤ limit then (target, false)
      else if p < target then (p + limit, true) else (p - limit, true)

/-- The range guard of R116. -/
def rangeGuard (f : FrameFormat) (x : ScaleResult) : ScaleResult :=
  if x.scale < scaleMin f ∨ scaleMax f < x.scale then
    { scale := clampInt (scaleMin f) (scaleMax f) x.scale, first := true, clamped := true, slewed := false }
  else x

/-- The raw scale from the two image scales (R112). -/
def rawScale (mA mF : Int) : Int := roundDiv (mA * 1000000) mF.toNat

/-- The breathing strength applied to a raw scale (R113). -/
def strengthScale (k1 : Nat) (raw : Int) : Int := 1000000 + roundDiv (k1 * (raw - 1000000)) 100

/-- A scale through clamp, slew and range guard (R114 to R116). -/
def computedScale (f : FrameFormat) (ms1 : MS1) (previous : Previous) (sk : Int) : ScaleResult :=
  let sc := clampInt (scaleMin f) (scaleMax f) sk
  let sl := slewScale ms1.slewLimit previous sc
  rangeGuard f { scale := sl.1, first := previous.first, clamped := decide (sc ≠ sk), slewed := sl.2 }

/-- A held scale (R122). -/
def heldScale (f : FrameFormat) (ms1 : MS1) (policy : HoldPolicy) (previous : Previous) : ScaleResult :=
  match policy with
  | .hold =>
    rangeGuard f { scale := previous.scale.getD 1000000, first := previous.first, clamped := false, slewed := false }
  | .neutral =>
    let sl := slewScale ms1.slewLimit previous 1000000
    rangeGuard f { scale := sl.1, first := previous.first, clamped := false, slewed := sl.2 }

/-- One component of the centre shift (R117). -/
def shiftOf (ms1 : MS1) (dF dA : Int) : Int :=
  if ms1.centreShift then clampInt (-10000) 10000 (roundDiv (ms1.strength * (dF - dA)) 100) else 0

/-- The shift of a held scale (R122). -/
def heldShift (policy : HoldPolicy) (previous : Previous) : Int × Int :=
  match policy with
  | .hold => previous.shift.getD (0, 0)
  | .neutral => (0, 0)

/-! ### Shading (R118 to R120, R123) -/

/-- The table radius of output point j in 1/4096 of Rn (R119). -/
def tableRadius (hd rn : Nat) (s : Int) (j : Nat) : Nat :=
  (roundDiv ((j * hd * 4096 * 1000000 : Nat) : Int) (8 * s.toNat * rn)).toNat

/-- The value of the table curve at a table radius (R119). -/
def curveAt (curve : List Int) (rho : Nat) : Int :=
  let i := rho / 512
  if 8 ≤ i then curve.getD 8 0
  else
    let g := curve.getD i 0
    g + roundDiv ((curve.getD (i + 1) 0 - g) * (rho - 512 * i : Nat)) 512

/-- The shading strength (R120). -/
def strengthGain (k2 : Nat) (v : Int) : Int := 4096 + roundDiv (k2 * (v - 4096)) 100

/-- A gain curve with its flags. -/
structure CurveResult where
  gains : List Int
  capped : Bool
  beyond : Bool
  deriving DecidableEq, Repr

/-- Gains brought within 4096 and the cap, and whether that changed one (R120, R123). -/
def capGains (cap : Nat) (gains : List Int) : List Int × Bool :=
  (gains.map (clampInt 4096 cap), gains.any fun g => decide (clampInt 4096 cap g ≠ g))

/-- The delivered gains from a table curve (R119, R120). -/
def computedCurve (ms2 : MS2) (hd rn : Nat) (s : Int) (curve : List Int) : CurveResult :=
  let radii := (List.range 9).map (tableRadius hd rn s)
  let capped := capGains ms2.gainCap (radii.map fun r => strengthGain ms2.strength (curveAt curve r))
  ⟨capped.1, capped.2, radii.any fun r => decide (4096 < r)⟩

/-- Nine gains of unity. -/
def unityCurve : List Int := List.replicate 9 4096

/-- A held curve (R123). -/
def heldCurve (ms2 : MS2) (policy : HoldPolicy) (previous : Previous) : CurveResult :=
  let curve := match policy with
    | .hold => previous.curve.getD unityCurve
    | .neutral => unityCurve
  let capped := capGains ms2.gainCap curve
  ⟨capped.1, capped.2, false⟩

/-! ### A computation's work -/

/-- Every needed cell has been received. -/
def allReceived (needs : List Need) : Bool := needs.all fun n => n.cell.isSome

/-- The breathing quantity waits for no cell. -/
def BreathingWork.settled : BreathingWork → Bool
  | .notFormed | .held => true
  | .gathering _ _ _ needs => allReceived needs

/-- The shading quantity waits for no cell. -/
def ShadingWork.settled : ShadingWork → Bool
  | .notFormed | .held => true
  | .gathering _ _ _ _ needs => allReceived needs

/-- The computation has reached its end (R136). -/
def Computation.settled (c : Computation) : Bool := c.breathing.settled && c.shading.settled

/-- A quantity that still awaits a cell is held (R121, R136). -/
def BreathingWork.holdMissing (b : BreathingWork) : BreathingWork := if b.settled then b else .held

/-- A quantity that still awaits a cell is held (R123, R136). -/
def ShadingWork.holdMissing (b : ShadingWork) : ShadingWork := if b.settled then b else .held

/-- A computation that ends now holds what it still waits for (R136, R137). -/
def Computation.holdMissing (c : Computation) : Computation :=
  { c with breathing := c.breathing.holdMissing, shading := c.shading.holdMissing }

/-- A received cell of a needed key. -/
def receiveNeed (k : Key) (cell : Cell) (needs : List Need) : List Need :=
  needs.map fun n => if n.key = k ∧ n.cell.isNone then { n with cell := some cell } else n

/-- A completion hands a computation a cell it awaits (R91, R136). -/
def Computation.receive (k : Key) (cell : Cell) (c : Computation) : Computation :=
  { c with
    breathing := match c.breathing with
      | .gathering f a z needs => .gathering f a z (receiveNeed k cell needs)
      | b => b,
    shading := match c.shading with
      | .gathering f z i rn needs => .gathering f z i rn (receiveNeed k cell needs)
      | b => b }

/-! ### What a computation delivers (R124, R125) -/

/-- The scale and shift of a computation and whether the scale was held (R110 to R117, R121, R122). -/
def deliverScale (fmt : FrameFormat) (c : Computation) : ScaleResult × (Int × Int) × Bool :=
  match c.breathing with
  | .gathering f a z needs =>
    let sk := strengthScale c.ms1.strength (rawScale (bilinear needs a z Cell.m) (bilinear needs f z Cell.m))
    (computedScale fmt c.ms1 c.previous sk,
      (shiftOf c.ms1 (bilinear needs f z Cell.dx) (bilinear needs a z Cell.dx),
       shiftOf c.ms1 (bilinear needs f z Cell.dy) (bilinear needs a z Cell.dy)), false)
  | .held => (heldScale fmt c.ms1 c.policy c.previous, heldShift c.policy c.previous, true)
  | .notFormed => (⟨1000000, c.previous.first, false, false⟩, (0, 0), false)

/-- The curve of a computation, through the delivered scale, and whether it was held (R118 to R120,
R123). -/
def deliverCurve (fmt : FrameFormat) (c : Computation) (s : Int) : CurveResult × Bool :=
  match c.shading with
  | .gathering f z i rn needs =>
    (computedCurve c.ms2 fmt.hd rn s ((List.range 9).map (trilinear needs f z i)), false)
  | .held => (heldCurve c.ms2 c.policy c.previous, true)
  | .notFormed => (⟨[], false, false⟩, false)

/-- What a computation begun in RUNNING delivers at its end (R124, R125). -/
def deliver (fmt : FrameFormat) (c : Computation) : Delivered :=
  let (sc, shift, scaleHeld) := deliverScale fmt c
  let (cu, shadingHeld) := deliverCurve fmt c sc.scale
  { position := c.position, anchor := c.anchor, level := c.level,
    flags := { first := sc.first, scaleHeld := scaleHeld, scaleClamped := sc.clamped, scaleSlewed := sc.slewed,
               shadingHeld := shadingHeld, shadingCapped := cu.capped, beyondCircle := cu.beyond,
               outsideTable := c.outsideTable, axisHeld := c.axisHeld, targetStale := c.targetStale,
               pattern := false },
    scale := sc.scale, shiftX := shift.1, shiftY := shift.2, gains := cu.gains }

/-- The previously delivered values after a computation of its stay has ended (R105): scale and shift at
level 1 or 2, curve at level 2, FIRST cleared at every level. -/
def rememberDelivered (d : Delivered) (p : Previous) : Previous :=
  { scale := if 1 ≤ d.level then some d.scale else p.scale,
    shift := if 1 ≤ d.level then some (d.shiftX, d.shiftY) else p.shift,
    curve := if 2 ≤ d.level then some d.gains else p.curve, first := false }

/-- What a pattern computation delivers (R143). -/
def deliverPattern (p : FramePrediction) (anchor level k : Nat) : Delivered :=
  { position := p.position, anchor := anchor, level := level,
    flags := { RecordFlags.clear with axisHeld := p.axisHeld, targetStale := p.targetStale, pattern := true },
    scale := 1000000 + ((k : Int) - 8) * 1000, shiftX := 0, shiftY := 0,
    gains := (List.range 9).map fun j => ((4096 + 128 * j * (k % 4) : Nat) : Int) }

end Sys2Proof.Machine
end

