-- ==== Sys2Proof/Machine/Engine.lean ====
section
/-! DEFINITION. The engine's states and mode sets, the pending frame list's shared operations, and the
records and reports that leave (chapters 2 and 8). -/

namespace Sys2Proof.Machine

/-! ### Skipping and discarding (R31, R34) -/

/-- The skip counter increased, holding at 255 (R31). -/
def addSkips (skip n : Nat) : Nat := min 255 (skip + n)

/-- The pending list emptied without records (R34). -/
def discardFrames (t : Timing) : Timing :=
  { t with frames := [], skip := t.frames.foldl (fun n e => addSkips n (e.skipped + 1)) t.skip }

/-! ### Mode sets (R131, R133) -/

/-- A set has staged contents. -/
def ModeSet.isStaged {α : Type} (m : ModeSet α) : Bool := m.staged.isSome

/-- Staged contents come into force. -/
def ModeSet.apply {α : Type} (m : ModeSet α) : ModeSet α :=
  match m.staged with
  | some x => ⟨some x.contents, none⟩
  | none => m

/-- Whether a set's count would reach 2 at this sync (R133). -/
def ModeSet.dueAtSync {α : Type} (m : ModeSet α) : Bool :=
  match m.staged with
  | some x => decide (1 ≤ x.syncs)
  | none => false

/-- An accepted sync is counted toward a staged set, which comes into force at its second (R133). -/
def ModeSet.onSync {α : Type} (m : ModeSet α) : ModeSet α :=
  match m.staged with
  | some x => if 1 ≤ x.syncs then ⟨some x.contents, none⟩ else { m with staged := some ⟨x.contents, x.syncs + 1⟩ }
  | none => m

/-- At least one set is staged. -/
def anyStaged (e : Engine) : Bool := e.ms0.isStaged || e.ms1.isStaged || e.ms2.isStaged || e.ms3.isStaged

/-! ### Engine states (R127 to R130) -/

/-- The body link is UP. -/
def bodyUp (s : State) : Bool := decide ((s.link .body).state = .up)

/-- The accessory link is UP. -/
def accessoryUp (s : State) : Bool := decide ((s.link .accessory).state = .up)

/-- Every mode set is written and sector 0 is valid (R127). -/
def configured (s : State) : Bool :=
  s.engine.ms0.inForce.isSome && s.engine.ms1.inForce.isSome && s.engine.ms2.inForce.isSome &&
  s.engine.ms3.inForce.isSome && s.store.sector0Valid

/-- The engine state is RUNNING or PATTERN. -/
def EngineState.runs : EngineState → Bool
  | .running | .pattern => true
  | .unconfigured | .standby => false

/-- The conditions of RUNNING and PATTERN hold (R127). -/
def mayRun (s : State) : Bool := configured s && decide (s.timing.stream = .locked) && bodyUp s

/-- The pattern selection of MS3 in force (R128). -/
def patternSelected (e : Engine) : Bool :=
  match e.ms3.inForce with
  | some m => m.pattern
  | none => false

/-- RUNNING or PATTERN is left for STANDBY (R129): the list is emptied, staged sets come into force with
MODE_APPLIED, and the interval of periodic reports begins when the accessory link is UP (R142). -/
def leaveRunning (s : State) : State :=
  let e := s.engine
  let staged := anyStaged e
  let s := s.setTiming (discardFrames s.timing)
  let s := s.setEngine { e with
    state := .standby, ms0 := e.ms0.apply, ms1 := e.ms1.apply, ms2 := e.ms2.apply, ms3 := e.ms3.apply,
    reportDue := if accessoryUp s then some (addInterval s.now 20000) else none }
  raiseIf staged .modeApplied s

/-- A computation in progress no longer belongs to the present stay in RUNNING (R138). -/
def Entry.endStay (e : Entry) : Entry :=
  match e.progress with
  | .computing c => { e with progress := .computing { c with sameStay := false } }
  | _ => e

/-- The engine enters RUNNING (R105, R128, R142). It keeps its held-count records (R44), though R129 counts them among
what the next entry resets: the model's choice (log 34). -/
def enterRunning (s : State) : State :=
  s.setEngine { s.engine with state := .running, previous := .none true, reportDue := none }

/-- The engine enters PATTERN (R128, R138, R142). It keeps its held-count records and its previously delivered values,
the model's choice beside R129 (log 34). -/
def enterPattern (s : State) : State :=
  let s := s.setTiming { s.timing with frames := s.timing.frames.map Entry.endStay }
  s.setEngine { s.engine with state := .pattern, patternCounter := 0, reportDue := none }

/-- The engine enters RUNNING or PATTERN by the selection in force (R128). -/
def enterSelected (s : State) : State := if patternSelected s.engine then enterPattern s else enterRunning s

/-- RUNNING and PATTERN end when their conditions stop holding (R127, R129). -/
def stopIfNeeded (s : State) : State := if s.engine.state.runs && !mayRun s then leaveRunning s else s

/-- UNCONFIGURED and STANDBY follow the mode sets and sector 0 (R127). -/
def followConfiguration (s : State) : State :=
  match s.engine.state with
  | .unconfigured => if configured s then s.setEngine { s.engine with state := .standby } else s
  | .standby => if configured s then s else s.setEngine { s.engine with state := .unconfigured }
  | .running | .pattern => s

/-- STANDBY is left once the stream is LOCKED, the body link UP and the store IDLE (R82, R128). -/
def startIfReady (s : State) : State :=
  if decide (s.engine.state = .standby) && mayRun s && s.store.op.isNone then enterSelected s else s

/-- The engine re-evaluates its state (R127). -/
def reevaluate (s : State) : State := startIfReady (followConfiguration (stopIfNeeded s))

/-- MS3 coming into force with a changed selection moves the engine between RUNNING and PATTERN, and the
pending list is kept (R130). -/
def followSelection (s : State) : State :=
  match s.engine.state with
  | .running => if patternSelected s.engine then enterPattern s else s
  | .pattern => if patternSelected s.engine then s else enterRunning s
  | .unconfigured | .standby => s

/-! ### The end of a computation (R124, R136, R138) -/

/-- A computation ends: it delivers, its entry is READY, and within its own stay it leaves the previously
delivered values. -/
def endComputation (e : Entry) (c : Computation) (g : Engine) : Entry × Engine :=
  let d := deliver e.format c
  ({ e with progress := .ready d },
    if c.sameStay then { g with previous := rememberDelivered d g.previous } else g)

/-- The list with its COMPUTING entry given by a function, and what that leaves of the engine. -/
def withComputing (f : Entry → Computation → Engine → Entry × Engine) (g : Engine) : List Entry → List Entry × Engine
  | [] => ([], g)
  | e :: es =>
    match e.progress with
    | .computing c => let (e', g') := f e c g; (e' :: es, g')
    | _ => let (es', g') := withComputing f g es; (e :: es', g')

/-- Applies a function to the COMPUTING entry. -/
def onComputing (f : Entry → Computation → Engine → Entry × Engine) (s : State) : State :=
  let (frames, g) := withComputing f s.engine s.timing.frames
  (s.setTiming { s.timing with frames := frames }).setEngine g

/-- The computation in progress with its entry, if there is one (R32). -/
def computingEntry : List Entry → Option (Entry × Computation)
  | [] => none
  | e :: es =>
    match e.progress with
    | .computing c => some (e, c)
    | _ => computingEntry es

/-- A completed fill handed to the computation in progress (R91, R136): taken when awaited and the cutoff
has not passed. It may end the computation. -/
def handCell (k : Key) (cell : Cell) (s : State) : State :=
  onComputing (fun e c g =>
    if 0 < instantDiff s.now e.cutoff then (e, g)
    else
      let c := c.receive k cell
      if c.settled then endComputation e c g else ({ e with progress := .computing c }, g)) s

/-! ### Records and reports (R139 to R142, R188) -/

/-- The payload of a correction record (R188). -/
def recordPayload (e : Entry) (d : Delivered) : List Byte :=
  le16 e.frameNumber.toNat ++ le8 e.skipped ++ le32 e.target.toNat ++ le16 d.position.power ++
  le16 (focusDistance d.position.power) ++ le16 d.position.focal ++ le16 d.position.iris ++ le16 d.anchor ++
  le16 d.flags.word ++
  (if 1 ≤ d.level then le32 d.scale.toNat ++ leSigned16 d.shiftX ++ leSigned16 d.shiftY else []) ++
  (if 2 ≤ d.level then d.gains.flatMap fun g => le16 g.toNat else [])

/-- The last mark in list order at or below a power (R142). -/
def markBelow (power : Nat) (marks : List Mark) : Option Mark :=
  (marks.filter fun m => decide (m.power ≤ power)).getLast?

/-- The first mark in list order above a power (R142). -/
def markAbove (power : Nat) (marks : List Mark) : Option Mark := marks.find? fun m => decide (power < m.power)

/-- The code of an engine state (R188). -/
def EngineState.code : EngineState → Nat
  | .unconfigured => 0
  | .standby => 1
  | .running => 2
  | .pattern => 3

/-- The payload of a position report (R142, R188); absent fields hold 0, unavailable ones the values of
R15. -/
def reportPayload (s : State) (frame : Option Nat) (focusCount : Nat) (power focal iris : Option Nat) : List Byte :=
  let below := power.bind fun p => markBelow p s.auth.marks
  let above := power.bind fun p => markAbove p s.auth.marks
  le8 (bitsOf [frame.isSome, below.isSome, above.isSome, decide (s.auth.holder = some .accessory)]) ++
  le8 s.engine.state.code ++ le16 focusCount ++ le16 (unitsField power) ++ le16 (distanceField power) ++
  le16 (unitsField focal) ++ le16 (unitsField iris) ++ le16 (frame.getD 0) ++
  le8 ((below.map Mark.id).getD 0) ++ le8 ((above.map Mark.id).getD 0)

/-- The frame of a correction record (R140). -/
def recordFrame (e : Entry) (d : Delivered) : TxFrame := ⟨0x80, recordPayload e d⟩

/-- The frame of the position report sent with an entry's record (R141). -/
def frameReport (s : State) (e : Entry) (d : Delivered) : TxFrame :=
  ⟨0x81, reportPayload s (some e.frameNumber.toNat) d.position.focusCount.toNat (some d.position.power)
    (some d.position.focal) (some d.position.iris)⟩

/-- The frame of a periodic position report (R142). -/
def periodicReport (s : State) : TxFrame :=
  ⟨0x81, reportPayload s none (latestFields s .focus).1 (unitsValue s .focus) (unitsValue s .zoom)
    (unitsValue s .iris)⟩

end Sys2Proof.Machine
end

