-- ==== Sys2Proof/Machine/Exchange.lean ====
section
/-! DEFINITION. Capability exchange and authority: the masters' ability words, the link states, what
entering and leaving UP brings about, and the resolution of authority (chapters 9 and 10). -/

namespace Sys2Proof.Machine

/-! ### Masters' ability words (R151, R187) -/

/-- The claim a claim byte names. -/
def claimOf : Nat → Option Claim
  | 0 => some .decline
  | 1 => some .auto
  | 2 => some .claim
  | _ => none

/-- The valid word an ABILITY payload carries, or none for an invalid one (R151, R187). -/
def masterWord (p : List Byte) : Option MasterWord :=
  if p.length = 5 ∧ byteAt p 0 ≤ 2 ∧ field16 p 2 ≤ 4095 then
    (claimOf (byteAt p 1)).map fun c =>
      { level := byteAt p 0, claim := c, seed := field16 p 2, acknowledge := (p.getD 4 0).getLsbD 0 }
  else none

/-- Two words are identical, the acknowledge field left out (R151). -/
def sameWord (a b : MasterWord) : Bool :=
  decide (a.level = b.level) && decide (a.claim = b.claim) && decide (a.seed = b.seed)

/-! ### Resolution (R161 to R164) -/

/-- The outcome of a resolution (R161). -/
inductive Resolution where
  | holder (h : Option Link)
  | conflict
  | equalSeeds
  deriving DecidableEq, Repr

/-- The outcome with one link UP (R161). -/
def resolveAlone (l : Link) (w : MasterWord) : Resolution :=
  match w.claim with
  | .claim | .auto => .holder (some l)
  | .decline => .holder none

/-- The outcome with both links UP (R161): the body's word, then the accessory's. -/
def resolveBoth (b a : MasterWord) : Resolution :=
  match b.claim, a.claim with
  | .claim, .claim => .conflict
  | .claim, .auto | .claim, .decline => .holder (some .body)
  | .auto, .claim | .decline, .claim => .holder (some .accessory)
  | .auto, .decline => .holder (some .body)
  | .decline, .auto => .holder (some .accessory)
  | .auto, .auto =>
    if a.seed < b.seed then .holder (some .body)
    else if b.seed < a.seed then .holder (some .accessory) else .equalSeeds
  | .decline, .decline => .holder none

/-- The word of a link that is UP. -/
def upWord (u : LinkUnit) : Option MasterWord :=
  match u.state with
  | .up => u.acceptedWord
  | .silent | .abilityDetect | .acknowledge => none

/-- The outcome the links' states and words give (R161). -/
def resolution (b a : Option MasterWord) : Resolution :=
  match b, a with
  | none, none => .holder none
  | some w, none => resolveAlone .body w
  | none, some w => resolveAlone .accessory w
  | some v, some w => resolveBoth v w

/-- The holder, the conflict condition and the equal-seed count after a resolution; AUTHORITY_CHANGED
when the holder differs (R163, R164). -/
def setHolder (h : Option Link) (conflict : Bool) (count : Nat) (s : State) : State :=
  raiseIf (decide (s.auth.holder ≠ h)) .authorityChanged
    (s.setAuth { s.auth with holder := h, conflict := conflict, equalSeeds := count })

/-! ### Link states (R153 to R157) -/

/-- A link enters SILENT: an ABILITY frame at once and then one every 10 ms (R153). -/
def enterSilent (l : Link) (s : State) : State :=
  abilitySend l (addInterval s.now 10000)
    (s.setLink l { s.link l with state := .silent, timeout := none })

/-- A link enters ABILITY_DETECT with a match count and a previous word (R154). -/
def enterDetect (l : Link) (count : Nat) (previous : Option MasterWord) (s : State) : State :=
  abilitySend l (addInterval s.now 2000)
    (s.setLink l { s.link l with
      state := .abilityDetect, matchCount := count, previousWord := previous, acceptedWord := none,
      latchedLevel := some (maxRecordLevel s), timeout := some (addInterval s.now 100000) })

/-- A link accepts a word and enters ACKNOWLEDGE (R154, R155). -/
def enterAcknowledge (l : Link) (w : MasterWord) (s : State) : State :=
  abilitySend l (addInterval s.now 2000)
    (s.setLink l { s.link l with
      state := .acknowledge, matchCount := 3, acceptedWord := some w,
      timeout := some (addInterval s.now 100000) })

/-- A frame is the reply OK of a kind that carries nothing else (R190). -/
def isBareOk (kind : Byte) (f : TxFrame) : Bool := decide (f = ⟨kind, [0]⟩)

/-- The link's line carries the reply of REINITIALIZE. -/
def sendingReinit (u : LinkUnit) : Bool :=
  match u.sending with
  | some (f, _) => isBareOk 0x17 f
  | none => false

/-- A READ STORE in progress on the port has its reply discarded (R157). -/
def dropReadStore (port : Option PortRead) : Option PortRead :=
  match port with
  | some ⟨.readStore r _, t⟩ => some ⟨.readStore r true, t⟩
  | p => p

/-- The restart of REINITIALIZE begins when its reply is discarded unsent (R195). -/
def dropReinitReply (l : Link) (s : State) : State :=
  if s.seq.reinit = .replying l ∧ sendingReinit (s.link l) = false then
    s.setSeq { s.seq with reinit := .due }
  else s

/-- What a link loses when it leaves UP, and the event on the other link (R157). The state it goes to,
the resolution and the engine follow. -/
def dropUp (l : Link) (s : State) : State :=
  let s := dropReinitReply l s
  let s := s.setLink l { s.link l with
    state := .silent, acceptedWord := none, recordLevel := none, records := [], replies := [], heldBack := [],
    renegotiateDue := false }
  let s := match l with
    | .body => s
    | .accessory =>
      (s.setStore { s.store with readStoreWaiting := [], port := dropReadStore s.store.port }).setEngine
        { s.engine with reportDue := none }
  raiseOn (otherLink l) .peerLinkChanged s

/-- The equal-seed restart: both links leave UP for ABILITY_DETECT with one resolution for both (R162). -/
def equalSeedRestart (count : Nat) (s : State) : State :=
  let s := setHolder none false count (dropUp .accessory (dropUp .body s))
  enterDetect .accessory 0 none (enterDetect .body 0 none (reevaluate s))

/-- Authority is resolved (R161 to R164). -/
def resolveAuthority (s : State) : State :=
  let b := upWord (s.link .body)
  let a := upWord (s.link .accessory)
  match resolution b a with
  | .holder h => setHolder h false (if b.isSome && a.isSome then 0 else s.auth.equalSeeds) s
  | .conflict => setHolder none true s.auth.equalSeeds s
  | .equalSeeds =>
    if s.auth.equalSeeds + 1 < 7 then equalSeedRestart (s.auth.equalSeeds + 1) s
    else setHolder none true 7 s

/-- A link leaves UP (R157). The state it goes to follows. -/
def leaveUp (l : Link) (s : State) : State := reevaluate (resolveAuthority (dropUp l s))

/-- The interval of periodic reports begins, when the engine is not running (R142, R156). -/
def startReports (s : State) : State :=
  if accessoryUp s && !s.engine.state.runs then
    s.setEngine { s.engine with reportDue := some (addInterval s.now 20000) }
  else s

/-- The record level fixed on the body link's entry to UP (R156). -/
def fixedLevel (l : Link) (u : LinkUnit) : Option Nat :=
  match l with
  | .body => some (min ((u.acceptedWord.map MasterWord.level).getD 0) (u.latchedLevel.getD 0))
  | .accessory => none

/-- A link enters UP (R156). -/
def enterUp (l : Link) (s : State) : State :=
  let u := s.link l
  let s := s.setLink l { u with
    state := .up, sendDue := none, abilityWaiting := false, timeout := some (addInterval s.now 250000),
    recordLevel := fixedLevel l u }
  let s := resolveAuthority (raiseOn (otherLink l) .peerLinkChanged s)
  match l with
  | .body => reevaluate s
  | .accessory => startReports s

/-- A valid word received in ABILITY_DETECT (R154). -/
def countWord (l : Link) (w : MasterWord) (s : State) : State :=
  let u := s.link l
  let repeated := (u.previousWord.map fun p => sameWord p w).getD false
  let count := if repeated then u.matchCount + 1 else 1
  if 3 ≤ count then enterAcknowledge l w s
  else s.setLink l { u with
    matchCount := count, previousWord := if repeated then u.previousWord else some w,
    timeout := some (addInterval s.now 100000) }

/-- A valid word received in ACKNOWLEDGE (R155). -/
def settleWord (l : Link) (w : MasterWord) (s : State) : State :=
  let u := s.link l
  if (u.acceptedWord.map fun p => sameWord p w).getD false then
    if w.acknowledge then enterUp l s
    else s.setLink l { u with timeout := some (addInterval s.now 100000) }
  else enterDetect l 1 (some w) s

/-- A good frame in UP re-arms the 250 ms timeout (R148, R156). -/
def rearmUp (l : Link) (s : State) : State :=
  s.setLink l { s.link l with timeout := some (addInterval s.now 250000) }

/-- An ABILITY frame with an invalid word (R148). -/
def rejectWord (l : Link) (s : State) : State :=
  raiseOn l .frameRejected (if (s.link l).state = .up then rearmUp l s else s)

/-- An ABILITY frame with a valid word (R148). -/
def receiveWord (l : Link) (w : MasterWord) (s : State) : State :=
  match (s.link l).state with
  | .silent => enterDetect l 1 (some w) s
  | .abilityDetect => countWord l w s
  | .acknowledge => settleWord l w s
  | .up => enterDetect l 1 (some w) (leaveUp l s)

/-- The last byte of a good or abandoned frame has been received: the parser hunts (R147). -/
def frameEnds (l : Link) (t : Instant) (s : State) : State :=
  (advanceTo t s).setLink l { (advanceTo t s).link l with parser := .hunting }

/-- A good ABILITY frame (R148). During start-up received bytes are discarded (R146). -/
def takeAbility (l : Link) (t : Instant) (p : List Byte) (s : State) : State :=
  if s.isHeld then s
  else
    let s := frameEnds l t s
    if !s.started then s
    else match masterWord p with
      | none => rejectWord l s
      | some w => receiveWord l w s

end Sys2Proof.Machine
end

