-- ==== Sys2Proof/Machine/Request.lean ====
section
/-! DEFINITION. What every request passes through: reception, the reply list, the ladder of checks and
the result codes (R148, R149, R165, R175, R176). -/

namespace Sys2Proof.Machine

/-- The result codes (R176). -/
inductive Code where
  | ok
  | accepted
  | badLength
  | unknownKind
  | notPermitted
  | conflict
  | notAuthority
  | patternActive
  | engineActive
  | busy
  | outOfRange
  | noSuchMark
  | isProtected
  | notConfigured
  | cacheDisabled
  deriving DecidableEq, Repr

/-- The code's byte (R176). -/
def Code.byte : Code → Byte
  | .ok => 0x00
  | .accepted => 0x01
  | .badLength => 0x10
  | .unknownKind => 0x11
  | .notPermitted => 0x12
  | .conflict => 0x13
  | .notAuthority => 0x14
  | .patternActive => 0x15
  | .engineActive => 0x16
  | .busy => 0x17
  | .outOfRange => 0x18
  | .noSuchMark => 0x19
  | .isProtected => 0x1A
  | .notConfigured => 0x1B
  | .cacheDisabled => 0x1C

/-- What a request's checks find at its taking, rank by rank (R175): `first` is rank 1, `stateRefusal`
rank 4 and `parameterRefusal` rank 5. -/
structure Checks where
  first : Option Code
  permitted : Bool
  needsAuthority : Bool
  stateRefusal : Option Code
  parameterRefusal : Option Code
  deriving DecidableEq, Repr

/-- The checks of a request that only its length can refuse. -/
def lengthOnly (ok : Bool) : Checks :=
  { first := if ok then none else some .badLength, permitted := true, needsAuthority := false,
    stateRefusal := none, parameterRefusal := none }

/-- The refusal of an authority request (R165). -/
def authorityRefusal (l : Link) (s : State) : Option Code :=
  if s.auth.conflict then some .conflict
  else match s.auth.holder with
    | none => none
    | some h => if h = l then none else some .notAuthority

/-- The first refusal in the order of ranks (R175). -/
def refusalOf (c : Checks) (l : Link) (s : State) : Option Code :=
  match c.first with
  | some x => some x
  | none =>
    if !c.permitted then some .notPermitted
    else match (if c.needsAuthority then authorityRefusal l s else none) with
      | some x => some x
      | none => match c.stateRefusal with
        | some x => some x
        | none => c.parameterRefusal

/-- PATTERN_ACTIVE while the engine is PATTERN (R144). -/
def patternRefusal (s : State) : Option Code :=
  if s.engine.state = .pattern then some .patternActive else none

/-- The rank 4 refusals of a store request (R69). -/
def storeRefusal (s : State) : Option Code :=
  match s.engine.state with
  | .pattern => some .patternActive
  | .running => some .engineActive
  | .unconfigured | .standby => if s.store.op.isSome then some .busy else none

/-- A refusal is the result code alone (R176). It joins the reply list at once, but for that of a READ STORE
taken while an earlier one of its link is unanswered, which is held back for the earlier one's reply (R149,
log 33). -/
def refuse (l : Link) (kind : Byte) (c : Code) (s : State) : State :=
  if kind = 0x44 ∧ l = .accessory ∧ readStoreOutstanding s = true then
    s.setLink l { s.link l with heldBack := (s.link l).heldBack ++ [⟨kind, [c.byte]⟩] }
  else joinReply l kind [c.byte] s

/-- A reply OK with its fields (R176, R190). -/
def replyOk (l : Link) (kind : Byte) (fields : List Byte) (s : State) : State :=
  joinReply l kind (0 :: fields) s

/-- A good request frame in UP: it re-arms the link's timeout, is discarded between REINITIALIZE and its
restart (R195), is abandoned when the reply list is full (R149), and otherwise is refused by the first
failing check or carried out (R175). -/
def serveRequest (l : Link) (kind : Byte) (checks : State → Checks) (act : State → State) (s : State) : State :=
  let s := rearmUp l s
  if s.seq.reinit ≠ .idle then s
  else if replyListFull l s then raiseOn l .frameRejected s
  else match refusalOf (checks s) l s with
    | some c => refuse l kind c s
    | none => act s

/-- A good frame of a kind other than ABILITY: a request in UP, discarded in the other states (R148) and
during start-up (R146). -/
def takeRequest (l : Link) (t : Instant) (kind : Byte) (checks : State → Checks) (act : State → State)
    (s : State) : State :=
  if s.isHeld then s
  else
    let s := frameEnds l t s
    if s.started && decide ((s.link l).state = .up) then serveRequest l kind checks act s else s

/-- A request of unknown kind (R176). -/
def takeUnknownKind (l : Link) (t : Instant) (kind : Byte) (s : State) : State :=
  takeRequest l t kind (fun _ => { lengthOnly true with first := some .unknownKind }) id s

end Sys2Proof.Machine
end

