-- ==== Sys2Proof/Machine/StatusRequests.lean ====
section
/-! DEFINITION. The requests that read the part as a whole and the event requests: IDENTIFY, READ STATUS,
READ POSITION, READ EVENTS, MODIFY EVENTS and SET EVENT ENABLES (R16, R177, R178, R182, R183). -/

namespace Sys2Proof.Machine

/-! ### Codes of states (R189, R190) -/

def ResetCause.code : ResetCause → Nat
  | .power => 0
  | .pin => 1
  | .reinit => 2

def AxisState.code : AxisState → Nat
  | .absent => 0
  | .seeking => 1
  | .live => 2
  | .stale => 3
  | .lost => 4

def StreamState.code : StreamState → Nat
  | .noStream => 0
  | .acquiring => 1
  | .locked => 2

def LinkState.code : LinkState → Nat
  | .silent => 0
  | .abilityDetect => 1
  | .acknowledge => 2
  | .up => 3

def Verdict.code : Verdict → Nat
  | .unscanned => 0
  | .valid => 1
  | .noGeneration => 2
  | .badKind => 3
  | .badKnots => 4
  | .lengthMismatch => 5
  | .crcFail => 6

/-- A store operation's kind code (R186, R189). -/
def StoreOpName.code : StoreOpName → Nat
  | .programPage => 0x41
  | .eraseSector => 0x42
  | .rescanTables => 0x43
  | .setReadProtection => 0x45
  | .clearReadProtection => 0x46

/-- The holder's code (R189). -/
def holderCode : Option Link → Nat
  | none => 0
  | some .body => 1
  | some .accessory => 2

/-! ### IDENTIFY (R177) -/

/-- The strap bits of IDENTIFY (R190). -/
def strapBits (x : Straps) : Nat :=
  bitsOf [x.accessoryRate, x.zoomFitted, x.irisFitted, x.focusSense, x.zoomSense, x.irisSense, x.service,
    x.bodyAttention, x.accessoryAttention]

/-- The lens identity fields of IDENTIFY, bytes 7 to 38 (R190). -/
def identityFields : Option Description → List Byte
  | none => List.replicate 32 0
  | some d => 1 :: padText 24 d.model ++ le32 d.serial ++
      le8 d.maps.focus.inUse ++ le8 d.maps.zoom.inUse ++ le8 d.maps.iris.inUse

/-- The fields of the IDENTIFY reply (R177, R190). -/
def identifyFields (s : State) : List Byte :=
  le8 Config.revision ++ le8 s.seq.cause.code ++ [s.seq.failMask] ++ le16 (strapBits s.seq.straps) ++
  leFlag s.store.readProtection ++ identityFields s.store.description

/-- IDENTIFY received (R177). -/
def takeIdentify (l : Link) (t : Instant) (p : List Byte) (s : State) : State :=
  takeRequest l t 0x10 (fun _ => lengthOnly p.isEmpty) (fun s => replyOk l 0x10 (identifyFields s) s) s

/-- IDENTIFY (R177). -/
def execIdentify (l : Link) (t : Instant) (p : List Byte) (s : State) : Result := answer (takeIdentify l t p s)

/-! ### READ STATUS (R178, R189) -/

/-- The byte of a READ STATUS reply at an offset for which the manual states no value (log 8). -/
def unstatedAt (s : State) (offset : Nat) : List Byte := [Config.unstatedByte s.free offset]

/-- An optional byte, unstated when absent. -/
def byteOr (s : State) (offset : Nat) (v : Option Nat) : List Byte :=
  match v with
  | some x => le8 x
  | none => unstatedAt s offset

/-- An optional two-byte field, unstated when absent. -/
def fieldOr (s : State) (offset : Nat) (v : Option Nat) : List Byte :=
  match v with
  | some x => le16 x
  | none => unstatedAt s offset ++ unstatedAt s (offset + 1)

/-- The operation in flight, bytes 19 to 21 (R189). -/
def opFields (s : State) : List Byte :=
  le8 ((s.store.op.map fun o => o.name.code).getD 0) ++
  byteOr s 20 (s.store.op.bind fun o => o.sector.map BitVec.toNat) ++
  byteOr s 21 (s.store.op.bind fun o => o.page.map BitVec.toNat)

/-- An ending's result code, DONE or FAULT (R189). -/
def OpResult.code : OpResult → Nat
  | .done => 0
  | .verifyFault _ _ => 1

/-- The first differing offset and the differing count of a FAULT (R70, R73). -/
def OpResult.mismatch : OpResult → Option (Nat × Nat)
  | .done => none
  | .verifyFault i n => some (i, n)

/-- The last completion, bytes 22 to 29 (R189). The cause code of VERIFY is the result code of FAULT. -/
def completionFields (s : State) : List Byte :=
  let c := s.store.lastCompletion
  le8 ((c.map fun c => c.name.code).getD 0) ++
  byteOr s 23 (c.bind fun c => c.sector.map BitVec.toNat) ++
  byteOr s 24 (c.bind fun c => c.page.map BitVec.toNat) ++
  byteOr s 25 (c.map fun c => c.result.code) ++ byteOr s 26 (c.map fun c => c.result.code) ++
  byteOr s 27 (c.bind fun c => c.result.mismatch.map Prod.fst) ++
  fieldOr s 28 (c.bind fun c => c.result.mismatch.map Prod.snd)

/-- An active table's sector and generation (R189). -/
def activeFields (s : State) (offset : Nat) (t : Option ActiveTable) : List Byte :=
  le8 ((t.map fun t => t.sector.toNat).getD 0) ++ fieldOr s (offset + 1) (t.map ActiveTable.generation)

/-- Bytes 1 to 18: engine, stream and timebase (R189). -/
def engineFields (s : State) : List Byte :=
  let e := s.engine
  le8 e.state.code ++
  le8 (bitsOf [e.ms0.inForce.isSome, e.ms1.inForce.isSome, e.ms2.inForce.isSome, e.ms3.inForce.isSome,
    e.ms0.isStaged, e.ms1.isStaged, e.ms2.isStaged, e.ms3.isStaged]) ++
  le8 s.timing.stream.code ++ le32 s.timing.period ++ le32 ((s.timing.lastSync.map BitVec.toNat).getD 0) ++
  le16 s.timing.frameNumber.toNat ++ le8 s.timing.frames.length ++ le32 s.now.toNat

/-- Bytes 19 to 61: the table store (R189). -/
def storeFields (s : State) : List Byte :=
  opFields s ++ completionFields s ++ leFlag s.store.readProtection ++
  activeFields s 31 s.store.breathing ++ activeFields s 34 s.store.shading ++
  s.store.verdicts.flatMap (fun v => le8 v.code) ++
  s.store.headers.flatMap (fun h => le8 ((h.map HeaderRead.kind).getD 0xFF)) ++
  s.store.headers.flatMap (fun h => le16 ((h.map HeaderRead.generation).getD 0))

/-- Bytes 62 to 70: authority, anchor and links (R189). -/
def authorityFields (s : State) : List Byte :=
  le8 (holderCode s.auth.holder) ++ leFlag s.auth.conflict ++ le8 s.auth.equalSeeds ++ le16 s.auth.anchor ++
  le8 ((s.link .body).recordLevel.getD 0xFF) ++
  le8 (s.link .body).state.code ++ le8 (s.link .accessory).state.code ++
  le8 (bitsOf (s.timing.lastSync.isSome :: s.store.headers.map Option.isSome))

/-- The fields of the READ STATUS reply (R178, R189). -/
def statusFields (s : State) : List Byte := engineFields s ++ storeFields s ++ authorityFields s

/-- READ STATUS received (R178). It moves the model's free counter, since the reply may hold free values. -/
def takeReadStatus (l : Link) (t : Instant) (p : List Byte) (s : State) : State :=
  takeRequest l t 0x11 (fun _ => lengthOnly p.isEmpty)
    (fun s => replyOk l 0x11 (statusFields s) (s.setFree (s.free + 1))) s

/-- READ STATUS (R178). -/
def execReadStatus (l : Link) (t : Instant) (p : List Byte) (s : State) : Result := answer (takeReadStatus l t p s)

/-! ### READ POSITION (R16) -/

/-- One axis's block of the READ POSITION reply (R190). -/
def axisBlock (s : State) (a : Axis) : List Byte :=
  let u := s.front.axes.get a
  le8 u.state.code ++ le16 (latestFields s a).1 ++ le32 (latestFields s a).2 ++
  le16 (unitsField (unitsValue s a)) ++ leFlag u.outsideMap

/-- The fields of the READ POSITION reply (R16, R190). -/
def positionFields (s : State) : List Byte :=
  le32 s.now.toNat ++ axisBlock s .focus ++ axisBlock s .zoom ++ axisBlock s .iris ++
  le16 (distanceField (unitsValue s .focus))

/-- READ POSITION received (R16). -/
def takeReadPosition (l : Link) (t : Instant) (p : List Byte) (s : State) : State :=
  takeRequest l t 0x12 (fun _ => lengthOnly p.isEmpty) (fun s => replyOk l 0x12 (positionFields s) s) s

/-- READ POSITION (R16). -/
def execReadPosition (l : Link) (t : Instant) (p : List Byte) (s : State) : Result :=
  answer (takeReadPosition l t p s)

/-! ### Event requests (R182, R183) -/

/-- A change of a link's event unit. -/
def changeUnit (l : Link) (f : EventUnit → EventUnit) (s : State) : State :=
  s.setEvents (s.events.map fun w => w.set l (f (w.get l)))

/-- READ EVENTS received (R182). -/
def takeReadEvents (l : Link) (t : Instant) (p : List Byte) (s : State) : State :=
  takeRequest l t 0x13 (fun _ => lengthOnly p.isEmpty)
    (fun s => replyOk l 0x13 (le16 (pendingWord s l).toNat ++ le16 (enableWord s l).toNat) s) s

/-- READ EVENTS (R182). -/
def execReadEvents (l : Link) (t : Instant) (p : List Byte) (s : State) : Result := answer (takeReadEvents l t p s)

/-- The pending word after a clear: the masked bits go, but for a level bit whose condition holds (R183). -/
def clearedWord (levels mask pending : EventWord) : EventWord := pending &&& ~~~(mask &&& ~~~levels)

/-- What MODIFY EVENTS does (R183). -/
def modifyEvents (l : Link) (mask : EventWord) (s : State) : State :=
  let recorded := pendingWord s l
  let s := changeUnit l (fun u => { u with pending := clearedWord (levelWord s) mask u.pending }) s
  replyOk l 0x14 (le16 recorded.toNat ++ le16 (pendingWord s l).toNat) s

/-- MODIFY EVENTS received (R183). -/
def takeModifyEvents (l : Link) (t : Instant) (p : List Byte) (s : State) : State :=
  takeRequest l t 0x14 (fun _ => lengthOnly (p.length == 2)) (modifyEvents l (BitVec.ofNat 16 (field16 p 0))) s

/-- MODIFY EVENTS (R183). -/
def execModifyEvents (l : Link) (t : Instant) (p : List Byte) (s : State) : Result :=
  answer (takeModifyEvents l t p s)

/-- What SET EVENT ENABLES does (R182). -/
def setEnables (l : Link) (word : EventWord) (s : State) : State :=
  let s := changeUnit l (fun u => { u with enable := word }) s
  replyOk l 0x15 (le16 (enableWord s l).toNat ++ le16 (pendingWord s l).toNat) s

/-- SET EVENT ENABLES received (R182). -/
def takeSetEventEnables (l : Link) (t : Instant) (p : List Byte) (s : State) : State :=
  takeRequest l t 0x15 (fun _ => lengthOnly (p.length == 2)) (setEnables l (BitVec.ofNat 16 (field16 p 0))) s

/-- SET EVENT ENABLES (R182). -/
def execSetEventEnables (l : Link) (t : Instant) (p : List Byte) (s : State) : Result :=
  answer (takeSetEventEnables l t p s)

end Sys2Proof.Machine
end

