-- ==== Sys2Proof/Machine/StreamRequests.lean ====
section
/-! DEFINITION. The requests on links, frames and mode sets: RENEGOTIATE, REINITIALIZE, FRAME FORMAT,
FRAME INFO, WRITE MODE SET and READ MODE SET (R25, R26, R132 to R134, R158, R195). -/

namespace Sys2Proof.Machine

/-! ### RENEGOTIATE and REINITIALIZE -/

/-- RENEGOTIATE received (R158). The link restarts when the reply's last byte has been sent. -/
def takeRenegotiate (l : Link) (t : Instant) (p : List Byte) (s : State) : State :=
  takeRequest l t 0x16 (fun _ => lengthOnly p.isEmpty) (replyOk l 0x16 []) s

/-- RENEGOTIATE (R158). -/
def execRenegotiate (l : Link) (t : Instant) (p : List Byte) (s : State) : Result :=
  answer (takeRenegotiate l t p s)

/-- The checks of REINITIALIZE (R195): an authority request, refused BUSY during a store operation. -/
def reinitializeChecks (p : List Byte) (s : State) : Checks :=
  { lengthOnly p.isEmpty with
    needsAuthority := true, stateRefusal := if s.store.op.isSome then some .busy else none }

/-- REINITIALIZE received (R195). The restart begins when the reply's last byte has been sent. -/
def takeReinitialize (l : Link) (t : Instant) (p : List Byte) (s : State) : State :=
  takeRequest l t 0x17 (reinitializeChecks p)
    (fun s => replyOk l 0x17 [] (s.setSeq { s.seq with reinit := .replying l })) s

/-- REINITIALIZE (R195). -/
def execReinitialize (l : Link) (t : Instant) (p : List Byte) (s : State) : Result :=
  answer (takeReinitialize l t p s)

/-! ### FRAME FORMAT and FRAME INFO (2.4) -/

/-- The checks of a request that the body link alone may send. -/
def bodyOnly (l : Link) (lengthOk : Bool) : Checks :=
  { lengthOnly lengthOk with permitted := decide (l = .body) }

/-- The frame format a FRAME FORMAT payload gives, clamped (R25, R186). -/
def formatOf (p : List Byte) : FrameFormat :=
  { hd := clampNat 1000 30000 (field16 p 0), margin := clampNat 0 100000 (field32 p 2),
    cropLimit := clampNat 0 200000 (field32 p 6), dueOffset := clampNat 500 100000 (field32 p 10),
    exposure := clampNat 1 1000000 (field32 p 14), readout := clampNat 0 100000 (field32 p 18) }

/-- The six fields in the order of the request (R190). -/
def formatFields (f : FrameFormat) : List Byte :=
  le16 f.hd ++ le32 f.margin ++ le32 f.cropLimit ++ le32 f.dueOffset ++ le32 f.exposure ++ le32 f.readout

/-- FRAME FORMAT received (R25). -/
def takeFrameFormat (l : Link) (t : Instant) (p : List Byte) (s : State) : State :=
  takeRequest l t 0x20 (fun _ => bodyOnly l (p.length == 22))
    (fun s => replyOk l 0x20 (formatFields (formatOf p)) (s.setTiming { s.timing with format := formatOf p })) s

/-- FRAME FORMAT (R25). -/
def execFrameFormat (l : Link) (t : Instant) (p : List Byte) (s : State) : Result :=
  answer (takeFrameFormat l t p s)

/-- The frame format in force with the E and R of a FRAME INFO payload, clamped (R26, R186). -/
def infoOf (p : List Byte) (f : FrameFormat) : FrameFormat :=
  { f with exposure := clampNat 1 1000000 (field32 p 0), readout := clampNat 0 100000 (field32 p 4) }

/-- What FRAME INFO does (R26). -/
def setInfo (l : Link) (p : List Byte) (s : State) : State :=
  let f := infoOf p s.timing.format
  replyOk l 0x21 (le32 f.exposure ++ le32 f.readout) (s.setTiming { s.timing with format := f })

/-- FRAME INFO received (R26). -/
def takeFrameInfo (l : Link) (t : Instant) (p : List Byte) (s : State) : State :=
  takeRequest l t 0x21 (fun _ => bodyOnly l (p.length == 8)) (setInfo l p) s

/-- FRAME INFO (R26). -/
def execFrameInfo (l : Link) (t : Instant) (p : List Byte) (s : State) : Result :=
  answer (takeFrameInfo l t p s)

/-! ### Contents of mode sets (8.2, R186); the fields follow the set number -/

/-- The velocity span as clamped and rounded down to a multiple of 500 (R132). -/
def clampSpan (x : Nat) : Nat := clampNat 500 8000 x / 500 * 500

/-- MS0 as clamped (R132). -/
def ms0Of (p : List Byte) : MS0 :=
  { span := clampSpan (field16 p 1), horizon := clampNat 0 20000 (field16 p 3),
    deadband := clampNat 0 64 (byteAt p 5), lead := clampNat 300 8000 (field16 p 6),
    prefetch := byteAt p 8 == 1 }

/-- MS1 as clamped (R132). -/
def ms1Of (p : List Byte) : MS1 :=
  { strength := clampNat 0 100 (byteAt p 1), slewLimit := clampNat 0 50000 (field16 p 2),
    centreShift := byteAt p 4 == 1 }

/-- MS2 as clamped (R132). -/
def ms2Of (p : List Byte) : MS2 :=
  { strength := clampNat 0 100 (byteAt p 1), gainCap := clampNat 4096 32767 (field16 p 2) }

/-- MS3 as clamped (R132). -/
def ms3Of (p : List Byte) : MS3 :=
  { pattern := byteAt p 1 == 1, policy := if byteAt p 2 == 1 then .neutral else .hold,
    guard := clampNat 100 1000 (field16 p 3) }

/-- MS0 in the layout of the request. -/
def ms0Fields (m : MS0) : List Byte :=
  le16 m.span ++ le16 m.horizon ++ le8 m.deadband ++ le16 m.lead ++ leFlag m.prefetch

/-- MS1 in the layout of the request. -/
def ms1Fields (m : MS1) : List Byte := le8 m.strength ++ le16 m.slewLimit ++ leFlag m.centreShift

/-- MS2 in the layout of the request. -/
def ms2Fields (m : MS2) : List Byte := le8 m.strength ++ le16 m.gainCap

/-- MS3 in the layout of the request. -/
def ms3Fields (m : MS3) : List Byte :=
  leFlag m.pattern ++ leFlag (decide (m.policy = .neutral)) ++ le16 m.guard

/-! ### WRITE MODE SET (R132, R133) -/

/-- The payload length matches the set named (R132, R186). -/
def modeLengthOk (p : List Byte) : Bool :=
  match p with
  | [] => false
  | _ :: _ =>
    match byteAt p 0 with
    | 0 => p.length == 9
    | 1 => p.length == 5
    | 2 => p.length == 4
    | 3 => p.length == 5
    | _ => true

/-- The choice fields name a choice, and the set number names a set (R132). -/
def modeChoicesOk (p : List Byte) : Bool :=
  match byteAt p 0 with
  | 0 => decide (byteAt p 8 ≤ 1)
  | 1 => decide (byteAt p 4 ≤ 1)
  | 2 => true
  | 3 => decide (byteAt p 1 ≤ 1) && decide (byteAt p 2 ≤ 1)
  | _ => false

/-- The checks of WRITE MODE SET (R132). -/
def writeModeChecks (l : Link) (p : List Byte) (s : State) : Checks :=
  { first := if modeLengthOk p then none else some .badLength,
    permitted := byteAt p 0 != 3 || decide (l = .body),
    needsAuthority := decide (byteAt p 0 < 3),
    stateRefusal := if byteAt p 0 < 3 then patternRefusal s else none,
    parameterRefusal := if modeChoicesOk p then none else some .outOfRange }

/-- Contents written to a mode set: staged while the engine runs, in force at once otherwise (R132, R133). -/
def ModeSet.write {α : Type} (staging : Bool) (x : α) (m : ModeSet α) : ModeSet α :=
  if staging then { m with staged := some ⟨x, 0⟩ } else ⟨some x, none⟩

/-- The engine with the named set written (R132). -/
def writeSet (staging : Bool) (p : List Byte) (e : Engine) : Engine :=
  match byteAt p 0 with
  | 0 => { e with ms0 := e.ms0.write staging (ms0Of p) }
  | 1 => { e with ms1 := e.ms1.write staging (ms1Of p) }
  | 2 => { e with ms2 := e.ms2.write staging (ms2Of p) }
  | _ => { e with ms3 := e.ms3.write staging (ms3Of p) }

/-- The contents as clamped, in the layout of the request (R190). -/
def clampedFields (p : List Byte) : List Byte :=
  match byteAt p 0 with
  | 0 => ms0Fields (ms0Of p)
  | 1 => ms1Fields (ms1Of p)
  | 2 => ms2Fields (ms2Of p)
  | _ => ms3Fields (ms3Of p)

/-- What WRITE MODE SET does when it is taken (R132, R133). -/
def writeMode (l : Link) (p : List Byte) (s : State) : State :=
  let staging := s.engine.state.runs
  let s := s.setEngine (writeSet staging p s.engine)
  let s := if staging then s else reevaluate s
  replyOk l 0x22 (le8 (byteAt p 0) ++ leFlag staging ++ clampedFields p) s

/-- WRITE MODE SET received (R132). -/
def takeWriteModeSet (l : Link) (t : Instant) (p : List Byte) (s : State) : State :=
  takeRequest l t 0x22 (writeModeChecks l p) (writeMode l p) s

/-- WRITE MODE SET (R132). -/
def execWriteModeSet (l : Link) (t : Instant) (p : List Byte) (s : State) : Result :=
  answer (takeWriteModeSet l t p s)

/-! ### READ MODE SET (R134) -/

/-- A set's contents in force and staged, 0 where there is none (R190). -/
def modeSetFields {α : Type} (width : Nat) (fields : α → List Byte) (m : ModeSet α) : List Byte :=
  let contents := fun x : Option α => (x.map fields).getD (List.replicate width 0)
  leFlag m.inForce.isSome ++ contents m.inForce ++
  leFlag m.isStaged ++ le8 ((m.staged.map Staged.syncs).getD 0) ++ contents (m.staged.map Staged.contents)

/-- The fields of the READ MODE SET reply after the set number (R134, R190). -/
def readModeFields (n : Nat) (e : Engine) : List Byte :=
  match n with
  | 0 => modeSetFields 8 ms0Fields e.ms0
  | 1 => modeSetFields 4 ms1Fields e.ms1
  | 2 => modeSetFields 3 ms2Fields e.ms2
  | _ => modeSetFields 4 ms3Fields e.ms3

/-- The checks of READ MODE SET (R134). -/
def readModeChecks (p : List Byte) : Checks :=
  { lengthOnly (p.length == 1) with parameterRefusal := if 3 < byteAt p 0 then some .outOfRange else none }

/-- READ MODE SET received (R134). -/
def takeReadModeSet (l : Link) (t : Instant) (p : List Byte) (s : State) : State :=
  takeRequest l t 0x23 (fun _ => readModeChecks p)
    (fun s => replyOk l 0x23 (le8 (byteAt p 0) ++ readModeFields (byteAt p 0) s.engine) s) s

/-- READ MODE SET (R134). -/
def execReadModeSet (l : Link) (t : Instant) (p : List Byte) (s : State) : Result :=
  answer (takeReadModeSet l t p s)

end Sys2Proof.Machine
end

