-- ==== Sys2Proof/Machine/AnchorRequests.lean ====
section
/-! DEFINITION. The requests on the anchor and the marks list: SET ANCHOR, ANCHOR HERE, SET MARK,
DELETE MARK and READ MARKS (R167 to R173). -/

namespace Sys2Proof.Machine

/-- The checks of an authority request that PATTERN refuses (R144, R165), with its rank 5 refusal. -/
def authorityChecks (lengthOk : Bool) (s : State) (parameter : Option Code) : Checks :=
  { lengthOnly lengthOk with
    needsAuthority := true, stateRefusal := patternRefusal s, parameterRefusal := parameter }

/-! ### The anchor -/

/-- What SET ANCHOR does (R168). -/
def setAnchor (l : Link) (power : Nat) (s : State) : State :=
  let a := clampNat 0 20000 power
  replyOk l 0x30 (le16 a) (s.setAuth { s.auth with anchor := a })

/-- SET ANCHOR received (R168). -/
def takeSetAnchor (l : Link) (t : Instant) (p : List Byte) (s : State) : State :=
  takeRequest l t 0x30 (fun s => authorityChecks (p.length == 2) s none) (setAnchor l (field16 p 0)) s

/-- SET ANCHOR (R168). -/
def execSetAnchor (l : Link) (t : Instant) (p : List Byte) (s : State) : Result := answer (takeSetAnchor l t p s)

/-- The here power with its source code, 0 PREDICTED or 1 SAMPLE (R169). -/
def herePower (s : State) : Option (Nat × Nat) :=
  match s.engine.lastPrediction with
  | some p => some (p.power, 0)
  | none => ((s.front.axes.focus.latest).bind LatestSample.value).map fun v => (v, 1)

/-- The refusal of a request that needs the here power (R169). -/
def hereRefusal (s : State) : Option Code :=
  if s.store.sector0Valid && (herePower s).isSome then none else some .notConfigured

/-- What ANCHOR HERE does (R169). -/
def anchorHere (l : Link) (s : State) : State :=
  match herePower s with
  | none => s
  | some (a, source) => replyOk l 0x31 (le16 a ++ le8 source) (s.setAuth { s.auth with anchor := a })

/-- ANCHOR HERE received (R169). -/
def takeAnchorHere (l : Link) (t : Instant) (p : List Byte) (s : State) : State :=
  takeRequest l t 0x31 (fun s => authorityChecks p.isEmpty s (hereRefusal s)) (anchorHere l) s

/-- ANCHOR HERE (R169). -/
def execAnchorHere (l : Link) (t : Instant) (p : List Byte) (s : State) : Result := answer (takeAnchorHere l t p s)

/-! ### The marks list (R170) -/

/-- A mark stands before another: by power, ties by id (R170). -/
def markBefore (a b : Mark) : Bool := decide (a.power < b.power) || (decide (a.power = b.power) && decide (a.id < b.id))

/-- A mark takes its place (R170, R171). -/
def insertMark (m : Mark) : List Mark → List Mark
  | [] => [m]
  | x :: xs => if markBefore m x then m :: x :: xs else x :: insertMark m xs

/-- The list without the mark of an id. -/
def removeMark (id : Nat) (marks : List Mark) : List Mark := marks.filter fun m => decide (m.id ≠ id)

/-- The mark of an id. -/
def findMark (id : Nat) (marks : List Mark) : Option Mark := marks.find? fun m => decide (m.id = id)

/-- The label after a SET MARK: none of a label part leaves a label as it is (R171). -/
def newLabel (part : Option (List Byte)) (old : Option Mark) : List Byte :=
  match part with
  | some label => textOf label
  | none => (old.map Mark.label).getD []

/-- The list after a mark of an id is set (R171). -/
def placeMark (id power : Nat) (part : Option (List Byte)) (marks : List Mark) : List Mark :=
  insertMark ⟨id, power, newLabel part (findMark id marks)⟩ (removeMark id marks)

/-- The label part of a SET MARK payload: absent with count 0xFF (R186). -/
def labelPart (p : List Byte) : Option (List Byte) := if byteAt p 3 = 0xFF then none else some (p.drop 4)

/-- The length of a SET MARK payload is one that R186 allows. -/
def markLengthOk (p : List Byte) : Bool :=
  decide (4 ≤ p.length) &&
  (if byteAt p 3 = 0xFF then p.length == 4 else decide (byteAt p 3 ≤ 8) && p.length == 4 + byteAt p 3)

/-- A SET MARK names HERE (R186). -/
def namesHere (p : List Byte) : Bool := field16 p 1 == 0xFFFF

/-- The refusal of a mark id (R171, R172). -/
def idRefusal (id : Nat) : Option Code := if 7 < id then some .outOfRange else none

/-- The rank 5 refusal of SET MARK (R171). -/
def setMarkRefusal (p : List Byte) (s : State) : Option Code :=
  match idRefusal (byteAt p 0) with
  | some c => some c
  | none => if namesHere p then hereRefusal s else none

/-- The power a SET MARK stores (R171). -/
def markPower (p : List Byte) (s : State) : Nat :=
  if namesHere p then ((herePower s).map Prod.fst).getD 0 else clampNat 0 20000 (field16 p 1)

/-- What SET MARK does (R171). -/
def setMark (l : Link) (p : List Byte) (s : State) : State :=
  let id := byteAt p 0
  let power := markPower p s
  let moved := (findMark id s.auth.marks).isSome
  let (released, s) := markChanged id
    (s.setAuth { s.auth with marks := placeMark id power (labelPart p) s.auth.marks })
  replyOk l 0x32 (le8 id ++ le16 power ++ le8 (bitsOf [moved, released])) s

/-- SET MARK received (R171). -/
def takeSetMark (l : Link) (t : Instant) (p : List Byte) (s : State) : State :=
  takeRequest l t 0x32 (fun s => authorityChecks (markLengthOk p) s (setMarkRefusal p s)) (setMark l p) s

/-- SET MARK (R171). -/
def execSetMark (l : Link) (t : Instant) (p : List Byte) (s : State) : Result := answer (takeSetMark l t p s)

/-- What DELETE MARK does (R172). -/
def deleteMark (l : Link) (id : Nat) (s : State) : State :=
  match findMark id s.auth.marks with
  | none => replyOk l 0x33 (le8 1) s
  | some _ =>
    let (released, s) := markChanged id (s.setAuth { s.auth with marks := removeMark id s.auth.marks })
    replyOk l 0x33 (le8 (bitsOf [false, released])) s

/-- DELETE MARK received (R172). -/
def takeDeleteMark (l : Link) (t : Instant) (p : List Byte) (s : State) : State :=
  takeRequest l t 0x33 (fun s => authorityChecks (p.length == 1) s (idRefusal (byteAt p 0)))
    (deleteMark l (byteAt p 0)) s

/-- DELETE MARK (R172). -/
def execDeleteMark (l : Link) (t : Instant) (p : List Byte) (s : State) : Result := answer (takeDeleteMark l t p s)

/-- A mark in the READ MARKS reply (R190). -/
def markFields (m : Mark) : List Byte :=
  le8 m.id ++ le16 m.power ++ le8 m.label.length ++ padText 8 m.label

/-- The fields of the READ MARKS reply (R173, R190). -/
def marksFields (marks : List Mark) : List Byte := le8 marks.length ++ marks.flatMap markFields

/-- READ MARKS received (R173). -/
def takeReadMarks (l : Link) (t : Instant) (p : List Byte) (s : State) : State :=
  takeRequest l t 0x34 (fun _ => lengthOnly p.isEmpty) (fun s => replyOk l 0x34 (marksFields s.auth.marks) s) s

/-- READ MARKS (R173). -/
def execReadMarks (l : Link) (t : Instant) (p : List Byte) (s : State) : Result := answer (takeReadMarks l t p s)

end Sys2Proof.Machine
end

