-- ==== Sys2Proof/Machine/CacheRequests.lean ====
section
/-! DEFINITION. The requests on the cell cache: LOCK PATH, UNLOCK, CACHE STATUS and DUMP CACHE (R94, R95,
R98, R101, R102). -/

namespace Sys2Proof.Machine

/-! ### The plan of LOCK PATH (R95) -/

/-- The indices of a bracket, each once. -/
def bracketIndices (b : Bracket) : List Nat := if b.lower = b.upper then [b.lower] else [b.lower, b.upper]

/-- The plan's cells at one focus knot of one kind, with the knot's value. -/
structure PlanGroup where
  knot : Nat
  keys : List Key
  deriving DecidableEq, Repr

/-- The keys at a focus index: zoom index ascending, then iris index ascending (R95). -/
def planKeys (kind : TableKind) (focus : Nat) (zoom iris : List Nat) : List Key :=
  zoom.flatMap fun z => iris.map fun i => ⟨kind, focus, z, i⟩

/-- The iris indices of a kind's plan (R95). -/
def planIris (kind : TableKind) (t : ActiveTable) (iris : Nat) : List Nat :=
  match kind with
  | .breathing => [0]
  | .shading => bracketIndices (bracket t.iris iris)

/-- The groups of one kind, by rising focus index (R95). -/
def planGroups (kind : TableKind) (t : ActiveTable) (low high focal iris : Nat) : List PlanGroup :=
  let a := (bracket t.focus low).lower
  let b := (bracket t.focus high).upper
  (List.range (b + 1 - a)).map fun n =>
    ⟨t.focus.getD (a + n) 0,
      planKeys kind (a + n) (bracketIndices (bracket t.zoom focal)) (planIris kind t iris)⟩

/-- A group takes its place before the first group that does not come before it. -/
def insertGroup (rising : Bool) (g : PlanGroup) : List PlanGroup → List PlanGroup
  | [] => [g]
  | x :: xs =>
    if (if rising then decide (g.knot ≤ x.knot) else decide (x.knot ≤ g.knot)) then g :: x :: xs
    else x :: insertGroup rising g xs

/-- Groups merged by focus knot value from the from-mark's end; at equal values the earlier of the list,
breathing, comes first (R95). -/
def mergeGroups (rising : Bool) (groups : List PlanGroup) : List PlanGroup :=
  groups.foldr (insertGroup rising) []

/-- The groups of an active table, none when the kind has none. -/
def groupsOf (kind : TableKind) (t : Option ActiveTable) (low high focal iris : Nat) : List PlanGroup :=
  match t with
  | some t => planGroups kind t low high focal iris
  | none => []

/-- The plan of a path between two powers (R95). -/
def lockPlan (breathing shading : Option ActiveTable) (start stop focal iris : Nat) : List Key :=
  let low := min start stop
  let high := max start stop
  (mergeGroups (decide (start ≤ stop))
    (groupsOf .breathing breathing low high focal iris ++ groupsOf .shading shading low high focal iris)).flatMap
    PlanGroup.keys

/-- The latest value of an axis: of the most recent prediction, before any of the latest valid sample; of
an ABSENT axis the default (R95). -/
def latestValue (s : State) (a : Axis) (predicted : Position → Nat) : Option Nat :=
  if s.fitted a then
    match s.engine.lastPrediction with
    | some p => some (predicted p)
    | none => unitsValue s a
  else unitsValue s a

/-- The latest focal length (R95). -/
def latestFocal (s : State) : Option Nat := latestValue s .zoom Position.focal

/-- The latest iris (R95). -/
def latestIris (s : State) : Option Nat := latestValue s .iris Position.iris

/-- A value the plan needs is unavailable (R94, log 14): the focal length for any active table, the iris
for a shading table. -/
def planValueMissing (s : State) : Bool :=
  ((s.store.breathing.isSome || s.store.shading.isSome) && (latestFocal s).isNone) ||
  (s.store.shading.isSome && (latestIris s).isNone)

/-! ### LOCK PATH (R94) -/

/-- The rank 5 refusal of LOCK PATH (R94, R175). -/
def lockRefusal (start stop : Nat) (s : State) : Option Code :=
  if 7 < start ∨ 7 < stop then some .outOfRange
  else if (findMark start s.auth.marks).isNone || (findMark stop s.auth.marks).isNone then some .noSuchMark
  else if !s.store.sector0Valid || planValueMissing s then some .notConfigured
  else if s.cache.disabled then some .cacheDisabled
  else none

/-- The power of a mark of the list. -/
def powerOfMark (id : Nat) (s : State) : Nat := ((findMark id s.auth.marks).map Mark.power).getD 0

/-- The plan formed when LOCK PATH is taken (R95). -/
def planOf (start stop : Nat) (s : State) : List Key :=
  lockPlan s.store.breathing s.store.shading (powerOfMark start s) (powerOfMark stop s)
    ((latestFocal s).getD 0) ((latestIris s).getD 0)

/-- What LOCK PATH does (R94, R96): the walk takes at once the cells that need no read. -/
def lockPath (l : Link) (start stop : Nat) (s : State) : State :=
  let plan := planOf start stop s
  let s := s.setCache { unlockAll s.cache with
    walk := { state := .walking, ends := some (start, stop), rest := plan, planned := plan.length,
              locked := 0, skipped := 0 } }
  let s := s.setStore { s.store with port := dropWalkRead s.store.port }
  walkAdvance (replyOk l 0x38 (le8 plan.length) s)

/-- LOCK PATH received (R94). -/
def takeLockPath (l : Link) (t : Instant) (p : List Byte) (s : State) : State :=
  takeRequest l t 0x38
    (fun s => authorityChecks (p.length == 2) s (lockRefusal (byteAt p 0) (byteAt p 1) s))
    (lockPath l (byteAt p 0) (byteAt p 1)) s

/-- LOCK PATH (R94). -/
def execLockPath (l : Link) (t : Instant) (p : List Byte) (s : State) : Result := answer (takeLockPath l t p s)

/-! ### UNLOCK (R98) -/

/-- The walk record after UNLOCK (R98). -/
def unlockWalk (w : Walk) : Walk :=
  match w.state with
  | .walking => abandonWalking w
  | .done | .abandoned => .idleRecord
  | .idle => w

/-- What UNLOCK does (R98). A walk it stops has its read on the port discarded (R97). -/
def unlockPath (l : Link) (s : State) : State :=
  let port := if s.cache.walk.state = .walking then dropWalkRead s.store.port else s.store.port
  let s := s.setCache { unlockAll s.cache with walk := unlockWalk s.cache.walk }
  replyOk l 0x39 [] (s.setStore { s.store with port := port })

/-- UNLOCK received (R98). -/
def takeUnlock (l : Link) (t : Instant) (p : List Byte) (s : State) : State :=
  takeRequest l t 0x39 (fun s => authorityChecks p.isEmpty s none) (unlockPath l) s

/-- UNLOCK (R98). -/
def execUnlock (l : Link) (t : Instant) (p : List Byte) (s : State) : Result := answer (takeUnlock l t p s)

/-! ### CACHE STATUS (R101) -/

def WalkState.code : WalkState → Nat
  | .idle => 0
  | .walking => 1
  | .done => 2
  | .abandoned => 3

/-- The number of valid entries. -/
def validCount (sets : List (List Way)) : Nat :=
  (sets.map fun ways => ways.countP fun w => w.content.isSome).sum

/-- The number of sets whose entry in a way position is locked. -/
def lockedAt (i : Nat) (sets : List (List Way)) : Nat :=
  sets.countP fun ways => ((ways[i]?).map Way.isLocked).getD false

/-- The fields of the CACHE STATUS reply (R101, R190). -/
def cacheFields (c : Cache) : List Byte :=
  let ids := if c.walk.state = .idle then (0xFF, 0xFF) else c.walk.ends.getD (0xFF, 0xFF)
  le8 64 ++ le8 4 ++ le16 (validCount c.sets) ++
  [0, 1, 2, 3].flatMap (fun i => le8 (lockedAt i c.sets)) ++
  le8 c.walk.state.code ++ le8 ids.1 ++ le8 ids.2 ++
  le8 c.walk.planned ++ le8 c.walk.locked ++ le8 c.walk.skipped ++
  le8 c.demand.length ++ le8 c.prefetch.length ++ leFlag c.disabled

/-- CACHE STATUS received (R101). -/
def takeCacheStatus (l : Link) (t : Instant) (p : List Byte) (s : State) : State :=
  takeRequest l t 0x3A (fun _ => lengthOnly p.isEmpty) (fun s => replyOk l 0x3A (cacheFields s.cache) s) s

/-- CACHE STATUS (R101). -/
def execCacheStatus (l : Link) (t : Instant) (p : List Byte) (s : State) : Result :=
  answer (takeCacheStatus l t p s)

/-! ### DUMP CACHE (R102) -/

/-- A cell's 18 bytes in the form of its kind (R189). -/
def payloadFields : Cell → List Byte
  | .breathing m dx dy => le32 m.toNat ++ leSigned16 dx ++ leSigned16 dy ++ List.replicate 10 0
  | .shading g => g.flatMap fun x => le16 x.toNat

/-- A way in the DUMP CACHE reply, its payload blanked under read protection (R102, R189). Bits 4 to 7 of its
status byte are 0, the model's choice (log 32). -/
def wayFields (blank : Bool) (w : Way) : List Byte :=
  match w.content with
  | some c =>
    le8 c.key.kind.code ++ le8 c.key.focus ++ le8 c.key.zoom ++ le8 c.key.iris ++
    le8 (bitsOf [true, c.locked] + 4 * w.rank) ++ (if blank then List.replicate 18 0 else payloadFields c.cell)
  | none => List.replicate 4 0 ++ le8 (4 * w.rank) ++ List.replicate 18 0

/-- The end set as clamped (R102). -/
def dumpEnd (p : List Byte) : Nat := min 63 (byteAt p 1)

/-- The last set of a reply, which holds at most two sets (R102, R189). -/
def dumpLast (p : List Byte) : Nat := min (byteAt p 0 + 1) (dumpEnd p)

/-- The fields of the DUMP CACHE reply (R102, R189). -/
def dumpFields (p : List Byte) (s : State) : List Byte :=
  let first := byteAt p 0
  le8 (dumpLast p) ++ (List.range (dumpLast p + 1 - first)).flatMap fun n =>
    (s.cache.sets.getD (first + n) []).flatMap (wayFields s.store.readProtection)

/-- The checks of DUMP CACHE (R102). -/
def dumpChecks (p : List Byte) : Checks :=
  { lengthOnly (p.length == 2) with
    parameterRefusal := if dumpEnd p < byteAt p 0 then some .outOfRange else none }

/-- DUMP CACHE received (R102). -/
def takeDumpCache (l : Link) (t : Instant) (p : List Byte) (s : State) : State :=
  takeRequest l t 0x3B (fun _ => dumpChecks p) (fun s => replyOk l 0x3B (dumpFields p s) s) s

/-- DUMP CACHE (R102). -/
def execDumpCache (l : Link) (t : Instant) (p : List Byte) (s : State) : Result := answer (takeDumpCache l t p s)

end Sys2Proof.Machine
end

