-- ==== Sys2Proof/Machine/StoreOps.lean ====
section
/-! DEFINITION. The table store's operations: withdrawals, the taking of a store operation, the beginning
of its work, its completion, the effect of a scan, and the store requests (chapters 4 and 5). -/

namespace Sys2Proof.Machine

/-! ### Withdrawals (R60, R63, R64) -/

/-- Replaces the active-table choice of a kind. -/
def Store.setActive (kind : TableKind) (t : Option ActiveTable) (x : Store) : Store :=
  match kind with
  | .breathing => { x with breathing := t }
  | .shading => { x with shading := t }

/-- A kind is withdrawn when the sector holds its active table (R63). -/
def withdrawKind (kind : TableKind) (sector : BitVec 3) (s : State) : State :=
  match s.active kind with
  | some t =>
    if t.sector = sector then invalidateKind kind (s.setStore (s.store.setActive kind none)) else s
  | none => s

/-- Sector 0 is withdrawn, and the engine re-evaluates its state (R64, R127). -/
def withdrawSector0 (s : State) : State :=
  reevaluate ((s.setStore { s.store with sector0Valid := false, description := none }).setFront
    (discardMaps s.front))

/-- The start of an erase or program of a sector: its verdict and the withdrawals (R60, R63, R64). Sector 7
has no verdict and holds no table. -/
def beginOnSector (sector : BitVec 3) (s : State) : State :=
  let s := s.setStore { s.store with verdicts := s.store.verdicts.set sector.toNat .unscanned }
  let s := withdrawKind .shading sector (withdrawKind .breathing sector s)
  if sector = 0 then withdrawSector0 s else s

/-! ### Taking a store operation (R70, R79, R81) -/

/-- The waiting READ STORE requests are answered BUSY (R79, R81). -/
def dismissReads (s : State) : State :=
  let n := s.store.readStoreWaiting.length
  Nat.repeat (answerReadStore [Code.busy.byte]) n (s.setStore { s.store with readStoreWaiting := [] })

/-- A store operation is taken: it is in flight, waiting READ STORE requests are answered BUSY, and it is
answered ACCEPTED (R69, R70, R81; the order of the two replies is log 15). -/
def startOp (l : Link) (name : StoreOpName) (sector : Option (BitVec 3)) (page : Option (BitVec 8))
    (s : State) : State :=
  let s := dismissReads (s.setStore { s.store with
    op := some { name := name, sector := sector, page := page, working := none } })
  joinReply l (BitVec.ofNat 8 name.code) [Code.accepted.byte] s

/-! ### Work and completion (R70 to R78, R81, R82) -/

/-- The operation's work begins (R81). CLEAR READ PROTECTION begins the erase of its first sector (R78). -/
def beginWork (o : StoreOp) (s : State) : State :=
  let s := s.setStore { s.store with op := some { o with working := some s.now } }
  match o.name, o.sector with
  | .clearReadProtection, some sector => beginOnSector sector s
  | _, _ => s

/-- An operation completes: the store is IDLE, the completion record is rewritten, the event is raised and
the engine re-evaluates its state (R70, R82). -/
def completeOp (o : StoreOp) (result : OpResult) (s : State) : State :=
  let s := s.setStore { s.store with
    op := none,
    lastCompletion := some { name := o.name, sector := o.sector, page := o.page, result := result } }
  reevaluate (raise (match result with | .done => .storeDone | .verifyFault _ _ => .storeFault) s)

/-- Replaces the flash array. -/
def setFlash (m : List Host.Cell) (s : State) : State := s.setStore { s.store with flash := m }

/-- The erase of ERASE SECTOR ends (R72). -/
def finishErase (o : StoreOp) (sector : BitVec 3) (s : State) : State :=
  completeOp o .done (setFlash (flashErase s.store.flash (sectorBase sector) sectorSize) s)

/-- The program of PROGRAM PAGE ends and is verified (R71, R73). -/
def finishProgram (o : StoreOp) (sector : BitVec 3) (page : BitVec 8) (s : State) : State :=
  let m := flashProgram s.store.flash (pageBase sector page) s.store.pageBuffer
  completeOp o (verifyResult (flashBytes m (pageBase sector page) 256) s.store.pageBuffer)
    (s.setStore { s.store with flash := m, pageBuffer := erasedPage })

/-- The program of SET READ PROTECTION ends and is verified, and the protection is re-evaluated (R77). -/
def finishProtect (o : StoreOp) (s : State) : State :=
  let m := flashProgram s.store.flash markerBase markerPattern
  completeOp o (verifyResult (flashBytes m markerBase 16) markerPattern)
    (s.setStore { s.store with flash := m, readProtection := markerSet m })

/-- One erase of CLEAR READ PROTECTION ends: the next sector's begins, or after sector 7 protection is
clear and the operation completes (R78). -/
def finishClearSector (o : StoreOp) (sector : BitVec 3) (s : State) : State :=
  let s := setFlash (flashErase s.store.flash (sectorBase sector) sectorSize) s
  if sector = 7 then completeOp o .done (s.setStore { s.store with readProtection := false })
  else
    let o := { o with sector := some (sector + 1), working := some s.now }
    beginOnSector (sector + 1) (s.setStore { s.store with op := some o })

/-! ### The effect of a scan (R59) -/

/-- Sector 0 validity, working description and map copy as the scan finds them (R10, R50, R53, R54). -/
def scanSector0 (s : State) : State :=
  let m := s.store.flash
  if sector0Passes m then
    let d := descriptionAt m
    (s.setStore { s.store with sector0Valid := true, description := some d }).setFront
      { s.front with mapCopy := some ⟨d.maps, d.primeFocal, d.assumedIris⟩ }
  else
    (s.setStore { s.store with sector0Valid := false, description := none }).setFront (discardMaps s.front)

/-- A kind's active-table choice after a scan, reported to the cache when it has changed (R58, R62, R93). -/
def scanKind (kind : TableKind) (s : State) : State :=
  let t := chooseTable s.store.flash kind
  let changed := choiceChanged (s.active kind) t
  let s := s.setStore (s.store.setActive kind t)
  if changed then invalidateKind kind s else s

/-- The results of a table scan take effect together (R59). The engine's re-evaluation follows. -/
def scanResults (s : State) : State :=
  let m := s.store.flash
  let s := s.setStore { s.store with
    verdicts := scanVerdicts m, headers := tableSectors.map fun n => some (headerAt m n) }
  scanKind .shading (scanKind .breathing (scanSector0 s))

/-! ### Store requests (R69) -/

/-- The checks of a store request: from the accessory link alone, refused while the engine runs or an
operation is in flight (R69). -/
def storeChecks (l : Link) (lengthOk : Bool) (s : State) (parameter : Option Code) : Checks :=
  { lengthOnly lengthOk with
    permitted := decide (l = .accessory), stateRefusal := storeRefusal s, parameterRefusal := parameter }

/-- The refusal of a sector to be written (R69, R74). -/
def sectorRefusal (sector : Nat) (s : State) : Option Code :=
  if 7 < sector then some .outOfRange
  else if sector = 7 ∨ (sector = 0 ∧ s.seq.straps.service = false) then some .isProtected
  else none

/-- Data bytes written into the page buffer from an offset (R71). -/
def loadBuffer (offset : Nat) (data buffer : List Byte) : List Byte :=
  buffer.take offset ++ data ++ buffer.drop (offset + data.length)

/-- What LOAD PAGE BUFFER does (R71). -/
def loadPage (l : Link) (p : List Byte) (s : State) : State :=
  replyOk l 0x40 [] (s.setStore { s.store with
    pageBuffer := loadBuffer (byteAt p 0) (p.drop 1) s.store.pageBuffer })

/-- LOAD PAGE BUFFER received (R69, R71). -/
def takeLoadPageBuffer (l : Link) (t : Instant) (p : List Byte) (s : State) : State :=
  takeRequest l t 0x40
    (fun s => storeChecks l (decide (2 ≤ p.length ∧ p.length ≤ 129)) s
      (if 256 < byteAt p 0 + (p.length - 1) then some .outOfRange else none))
    (loadPage l p) s

/-- LOAD PAGE BUFFER (R71). -/
def execLoadPageBuffer (l : Link) (t : Instant) (p : List Byte) (s : State) : Result :=
  answer (takeLoadPageBuffer l t p s)

/-- What PROGRAM PAGE does at its taking (R73). -/
def startProgram (l : Link) (sector : BitVec 3) (page : BitVec 8) (s : State) : State :=
  beginOnSector sector (startOp l .programPage (some sector) (some page) s)

/-- PROGRAM PAGE received (R69, R73). A page number is one byte, so it is never above 255. -/
def takeProgramPage (l : Link) (t : Instant) (p : List Byte) (s : State) : State :=
  takeRequest l t 0x41 (fun s => storeChecks l (p.length == 2) s (sectorRefusal (byteAt p 0) s))
    (startProgram l (BitVec.ofNat 3 (byteAt p 0)) (BitVec.ofNat 8 (byteAt p 1))) s

/-- PROGRAM PAGE (R73). -/
def execProgramPage (l : Link) (t : Instant) (p : List Byte) (s : State) : Result :=
  answer (takeProgramPage l t p s)

/-- What ERASE SECTOR does at its taking (R72). -/
def startErase (l : Link) (sector : BitVec 3) (s : State) : State :=
  beginOnSector sector (startOp l .eraseSector (some sector) none s)

/-- ERASE SECTOR received (R69, R72). -/
def takeEraseSector (l : Link) (t : Instant) (p : List Byte) (s : State) : State :=
  takeRequest l t 0x42 (fun s => storeChecks l (p.length == 1) s (sectorRefusal (byteAt p 0) s))
    (startErase l (BitVec.ofNat 3 (byteAt p 0))) s

/-- ERASE SECTOR (R72). -/
def execEraseSector (l : Link) (t : Instant) (p : List Byte) (s : State) : Result :=
  answer (takeEraseSector l t p s)

/-- RESCAN TABLES received (R75). -/
def takeRescanTables (l : Link) (t : Instant) (p : List Byte) (s : State) : State :=
  takeRequest l t 0x43 (fun s => storeChecks l p.isEmpty s none) (startOp l .rescanTables none none) s

/-- RESCAN TABLES (R75). -/
def execRescanTables (l : Link) (t : Instant) (p : List Byte) (s : State) : Result :=
  answer (takeRescanTables l t p s)

/-- SET READ PROTECTION received (R77). -/
def takeSetReadProtection (l : Link) (t : Instant) (p : List Byte) (s : State) : State :=
  takeRequest l t 0x45 (fun s => storeChecks l p.isEmpty s none) (startOp l .setReadProtection none none) s

/-- SET READ PROTECTION (R77). -/
def execSetReadProtection (l : Link) (t : Instant) (p : List Byte) (s : State) : Result :=
  answer (takeSetReadProtection l t p s)

/-- CLEAR READ PROTECTION received (R78). It names sector 1 until its work begins there (log 16). -/
def takeClearReadProtection (l : Link) (t : Instant) (p : List Byte) (s : State) : State :=
  takeRequest l t 0x46 (fun s => storeChecks l p.isEmpty s none)
    (startOp l .clearReadProtection (some 1) none) s

/-- CLEAR READ PROTECTION (R78). -/
def execClearReadProtection (l : Link) (t : Instant) (p : List Byte) (s : State) : Result :=
  answer (takeClearReadProtection l t p s)

/-! ### READ STORE (R79) -/

/-- The rank 4 refusal of READ STORE (R69, R149). -/
def readStoreRefusal (s : State) : Option Code :=
  if s.store.op.isSome || readStoreOutstanding s then some .busy else none

/-- The rank 5 refusal of READ STORE (R69, R76). -/
def readStoreParameter (sector offset count : Nat) (s : State) : Option Code :=
  if 7 < sector ∨ count = 0 ∨ 128 < count ∨ sectorSize < offset + count then some .outOfRange
  else if sector ≠ 0 ∧ s.store.readProtection = true then some .isProtected
  else none

/-- The checks of READ STORE (R69, R149). -/
def readStoreChecks (l : Link) (p : List Byte) (s : State) : Checks :=
  { lengthOnly (p.length == 4) with
    permitted := decide (l = .accessory), stateRefusal := readStoreRefusal s,
    parameterRefusal := readStoreParameter (byteAt p 0) (field16 p 1) (byteAt p 3) s }

/-- The read a READ STORE payload asks for. -/
def readRequestOf (p : List Byte) : ReadRequest :=
  { sector := BitVec.ofNat 3 (byteAt p 0), offset := BitVec.ofNat 16 (field16 p 1), count := byteAt p 3 }

/-- What READ STORE does when it is taken: it waits for the port (R79). -/
def queueRead (p : List Byte) (s : State) : State :=
  s.setStore { s.store with readStoreWaiting := s.store.readStoreWaiting ++ [readRequestOf p] }

/-- READ STORE received (R79). -/
def takeReadStore (l : Link) (t : Instant) (p : List Byte) (s : State) : State :=
  takeRequest l t 0x44 (readStoreChecks l p) (queueRead p) s

/-- READ STORE (R79). -/
def execReadStore (l : Link) (t : Instant) (p : List Byte) (s : State) : Result :=
  answer (takeReadStore l t p s)

/-- The bytes a READ STORE returns (R79). -/
def readBytes (r : ReadRequest) (s : State) : List Byte :=
  flashBytes s.store.flash (sectorBase r.sector + r.offset.toNat) r.count

end Sys2Proof.Machine
end

