-- ==== Sys2Proof/Machine/Startup.lean ====
section
/-! DEFINITION. The starts of the part: POWER_ON, PIN_RESET, LEAVE_RESET, the self-test, the marker read
and table scan of a start, TABLE_SCAN_END and REINITIALIZE_RESTART (R59, R76, R83, R192 to R196). -/

namespace Sys2Proof.Machine

/-! ### POWER_ON and PIN_RESET (R83, R192) -/

/-- The first address and the number of the bytes that an operation in flight is acting on, which a reset
leaves indeterminate: none while its work has not begun (R68, R81, R83; log 6). -/
def cutOffRange (o : StoreOp) : Option (Nat × Nat) :=
  match o.working, o.name, o.sector, o.page with
  | some _, .eraseSector, some n, _ => some (sectorBase n, sectorSize)
  | some _, .clearReadProtection, some n, _ => some (sectorBase n, sectorSize)
  | some _, .programPage, some n, some p => some (pageBase n p, 256)
  | some _, .setReadProtection, _, _ => some (markerBase, 16)
  | _, _, _, _ => none

/-- The flash array after a power-on or pin reset cuts off whatever is in flight (R68, R83): each byte the
operation was acting on is a free value. -/
def cutOffFlash (s : State) : List Host.Cell :=
  match s.store.op.bind cutOffRange with
  | some (a, n) => flashFill s.store.flash a (Config.indeterminateByte s.free) n
  | none => s.store.flash

/-- The part held in reset: every block at its value after reset, the flash kept, the straps as last
sampled and the cause of the latest start until LEAVE_RESET (R35, R67, R83, R103, R145, R159, R174, R192). -/
def holdInReset (bySupply : Bool) (s : State) : State :=
  { pending := s.pending, free := s.free + 1,
    seq := { s.seq with phase := .held bySupply, reinit := .idle },
    front := .reset s.seq.straps, timing := .reset 0,
    store := .reset (cutOffFlash s) erasedPage false, cache := .reset false, engine := .reset,
    links := ⟨.reset, .reset⟩, auth := .reset, events := none }

/-- POWER_ON: the supply monitor holds or forces the part into reset (R192). -/
def execPowerOn (s : State) : Result := .next (holdInReset true s)

/-- The reset now holding the part was held or forced by the supply monitor (R192; log 29). -/
def supplyHolds (s : State) : Bool :=
  match s.seq.phase with
  | .held b => b
  | _ => false

/-- PIN_RESET: the reset pin holds the part in reset (R192). A supply-monitor reset that it overlaps
stays one. -/
def execPinReset (s : State) : Result := .next (holdInReset (supplyHolds s) s)

/-- LEAVE_RESET: the timebase starts from 0, the straps are sampled, the event unit takes its reset words
and the self-test begins, every other block at its value after reset (R18, R179, R192, R193). -/
def execLeaveReset (straps : Straps) (s : State) : Result :=
  match s.seq.phase with
  | .held bySupply =>
    answer { s with
      seq := { phase := .cacheRam 0, straps := straps, cause := if bySupply then .power else .pin,
               failMask := 0, reinit := .idle },
      front := .reset straps, timing := .reset 0, store := .reset s.store.flash erasedPage false,
      cache := .reset false, engine := .reset, links := ⟨.reset, .reset⟩, auth := .reset,
      events := eventsReset }
  | _ => .next s

/-! ### The self-test (R193) -/

/-- Sets bits of the fail mask. -/
def failBits (bits : Nat) (s : State) : State :=
  s.setSeq { s.seq with failMask := s.seq.failMask ||| BitVec.ofNat 8 bits }

/-- Moves the sequencer to another phase. -/
def setPhase (x : Phase) (s : State) : State := s.setSeq { s.seq with phase := x }

/-- CACHE_RAM_CHECK_DONE: step 1 of the self-test ends 2 ms after it began, and the first encoder reads
begin (R100, R103, R193). -/
def execCacheRamCheckDone (passed : Bool) (s : State) : Result :=
  match s.seq.phase with
  | .cacheRam since =>
    let s := failBits (if passed then 0 else 1) (advanceTo (addInterval since 2000) s)
    let first := fun a : Axis => if s.fitted a then EncoderTest.reading 1 else .notRead
    answer (setPhase (.encoders s.now ⟨first .focus, first .zoom, first .iris⟩)
      (s.setCache (.reset (!passed))))
  | _ => .next s

/-- An axis's test is at a point that a predicate names, on any axis. -/
def anyTest (f : EncoderTest → Bool) (tests : PerAxis EncoderTest) : Bool :=
  f tests.focus || f tests.zoom || f tests.iris

/-- An encoder read of the self-test is in progress. -/
def EncoderTest.isReading : EncoderTest → Bool
  | .reading _ => true
  | .notRead | .waiting _ | .passed | .failed => false

/-- A further attempt is to be made. -/
def EncoderTest.isWaiting : EncoderTest → Bool
  | .waiting _ => true
  | .notRead | .reading _ | .passed | .failed => false

/-- The next attempt of an axis that waits for one. -/
def EncoderTest.retry : EncoderTest → EncoderTest
  | .waiting n => .reading (n + 1)
  | x => x

/-- SELF_TEST_ENCODER_ATTEMPT: 500 µs after the previous attempt a further read starts on each fitted
encoder that has not passed (R193). -/
def execSelfTestEncoderAttempt (s : State) : Result :=
  match s.seq.phase with
  | .encoders attempt tests =>
    if anyTest EncoderTest.isReading tests || !anyTest EncoderTest.isWaiting tests then .next s
    else
      let next := addInterval attempt 500
      answer (setPhase (.encoders next (tests.mapAxes fun _ x => x.retry)) (advanceTo next s))
  | _ => .next s

/-- An attempt's judgement: passed at a valid answer, failed after the third (R193). -/
def judgeTest (n : Nat) (valid : Bool) : EncoderTest :=
  if valid then .passed else if 3 ≤ n then .failed else .waiting n

/-- The fail mask bits 2 to 4 of the encoder step (R193). -/
def encoderFailBits (tests : PerAxis EncoderTest) : Nat :=
  bitsOf [false, false, decide (tests.focus = .failed), decide (tests.zoom = .failed),
    decide (tests.iris = .failed)]

/-- The encoder step goes on, or ends and sets its bits when no read remains; the marker read follows
(R193). -/
def afterEncoderRead (attempt : Instant) (tests : PerAxis EncoderTest) (s : State) : State :=
  if anyTest EncoderTest.isReading tests || anyTest EncoderTest.isWaiting tests then
    setPhase (.encoders attempt tests) s
  else setPhase (.marker false s.now) (failBits (encoderFailBits tests) s)

/-- SELF_TEST_ENCODER_READ_DONE: a read ends 20 µs after its attempt began and is judged (R4, R193). -/
def execSelfTestEncoderReadDone (axis : Axis) (answerBits : BitVec 16) (s : State) : Result :=
  match s.seq.phase with
  | .encoders attempt tests =>
    match tests.get axis with
    | .reading n =>
      answer (afterEncoderRead attempt (tests.set axis (judgeTest n (answerValid answerBits)))
        (advanceTo (addInterval attempt 20) s))
    | _ => .next s
  | _ => .next s

/-- MARKER_AREA_READ_DONE: the 40 µs read of the marker area ends, the read-protection state is set from
it and the table scan begins (R76, R193, R196). -/
def execMarkerAreaReadDone (s : State) : Result :=
  match s.seq.phase with
  | .marker reinit since =>
    let s := advanceTo (addInterval since 40) s
    answer (setPhase (.scan reinit s.now)
      (s.setStore { s.store with readProtection := markerSet s.store.flash }))
  | _ => .next s

/-! ### TABLE_SCAN_END (R59, R75, R193, R194, R196) -/

/-- The fail mask bits of the self-test's scan (R193). -/
def scanFailBits (s : State) : Nat :=
  bitsOf [false, !s.store.sector0Valid, false, false, false, s.store.breathing.isNone, s.store.shading.isNone]

/-- Start-up ends: the anchor, the engine, the sampling and the links' first ABILITY frames (R194). -/
def endStartup (s : State) : State :=
  let s := setPhase .finished s
  let s := s.setAuth { s.auth with anchor := (s.store.description.map Description.defaultAnchor).getD 0 }
  let s := (reevaluate s).setFront { s.front with nextSampling := some s.now }
  let first := addInterval s.now 10000
  abilitySend .accessory first (abilitySend .body first s)

/-- TABLE_SCAN_END: 21 ms after it began, a scan's results take effect together. The scan of a start is
followed by the end of start-up, that of RESCAN TABLES by its completion (R59, R70, R75, R194). -/
def execTableScanEnd (s : State) : Result :=
  match s.seq.phase with
  | .scan reinit since =>
    let s := scanResults (advanceTo (addInterval since 21000) s)
    answer (endStartup (if reinit then s else failBits (scanFailBits s) s))
  | _ =>
    match s.store.op with
    | some ⟨.rescanTables, n, p, some since⟩ =>
      let s := scanResults (advanceTo (addInterval since 21000) s)
      answer (completeOp ⟨.rescanTables, n, p, some since⟩ .done s)
    | _ => .next s

/-! ### REINITIALIZE_RESTART (R196) -/

/-- A link after REINITIALIZE: a frame being sent is finished (R159, R196). -/
def LinkUnit.restart (u : LinkUnit) : LinkUnit := { LinkUnit.reset with sending := u.sending }

/-- The values after REINITIALIZE and the start of the marker read (R196). -/
def reinitialized (s : State) : State :=
  { s with
    seq := { s.seq with phase := .marker true s.now, cause := .reinit, reinit := .idle },
    front := .reset s.seq.straps, timing := .reset s.now,
    store := .reset s.store.flash s.store.pageBuffer s.store.readProtection,
    cache := .reset s.cache.disabled, engine := .reset,
    links := ⟨s.links.body.restart, s.links.accessory.restart⟩, auth := .reset, events := eventsReset }

/-- REINITIALIZE_RESTART: once the reply of REINITIALIZE has been sent, or discarded with its link, every
volatile block takes its value after REINITIALIZE (R195, R196). -/
def execReinitializeRestart (s : State) : Result :=
  if s.seq.reinit = .due then answer (reinitialized s) else .next s

end Sys2Proof.Machine
end

