-- ==== Sys2Proof/Machine/Sampling.lean ====
section
/-! DEFINITION. The encoder front end's steps: SAMPLING_INSTANT and ENCODER_READ_COMPLETE (R3 to R12). -/

namespace Sys2Proof.Machine

/-- A read starts on the line of a fitted axis (R3). -/
def startRead (s : State) (t : Instant) (a : Axis) (u : AxisUnit) : AxisUnit :=
  if s.fitted a then { u with reading := some t } else u

/-- A read is in progress on some axis's line. -/
def anyReading (f : FrontEnd) : Bool :=
  f.axes.focus.reading.isSome || f.axes.zoom.reading.isSome || f.axes.iris.reading.isSome

/-- SAMPLING_INSTANT: one read starts on the line of every fitted axis, and the next sampling instant is
500 µs later (R3). A read lasts 20 µs, so none is in progress at a sampling instant (log 3). -/
def execSamplingInstant (s : State) : Result :=
  match s.front.nextSampling with
  | some t =>
    if anyReading s.front then .next s
    else answer ((advanceTo t s).setFront { s.front with
      axes := s.front.axes.mapAxes (startRead s t), nextSampling := some (addInterval t 500) })
  | none => .next s

/-- ENCODER_READ_COMPLETE: 20 µs after it began, a read ends and its sample is filed (R3 to R8). -/
def execEncoderReadComplete (axis : Axis) (answerBits : BitVec 16) (s : State) : Result :=
  match (s.front.axes.get axis).reading with
  | some t =>
    answer (applySample axis (sampleOf (senseHigh s.seq.straps axis) t answerBits)
      (advanceTo (addInterval t 20) s))
  | none => .next s

end Sys2Proof.Machine
end

