-- ==== Sys2Proof/Machine/Frames.lean ====
section
/-! DEFINITION. Frame timing and the computation's steps: SYNC_EDGE, STREAM_TIMEOUT, COMPUTATION_START,
CUTOFF and DUE_INSTANT (R19 to R34, R86, R92, R126, R133, R135 to R143). -/

namespace Sys2Proof.Machine

/-! ### The stream (R19 to R22) -/

/-- A new acquisition: the sync is frame 0 in ACQUIRING. A stay in RUNNING or PATTERN ends first, then the
skip counter is set to 0 (R20, R21, R23, R31; log 12). -/
def beginAcquisition (s : State) : State :=
  let s := s.setTiming { s.timing with
    stream := .acquiring, lastSync := some s.now, period := 0, frameNumber := 0 }
  let s := stopIfNeeded s
  raise .streamAcquired (s.setTiming { s.timing with skip := 0 })

/-- A sync at most 1 s after the last accepted one (R21). The engine's own change follows the sync (R30). -/
def lockStream (interval : Nat) (s : State) : State :=
  s.setTiming { s.timing with
    stream := .locked, lastSync := some s.now, period := interval, frameNumber := s.timing.frameNumber + 1 }

/-- What a captured edge is (R19 to R21). -/
inductive EdgeVerdict where
  | rejected
  | acquires
  | locks (interval : Nat)
  deriving DecidableEq, Repr

/-- The verdict on an edge at the present instant (R19 to R21). -/
def judgeEdge (s : State) : EdgeVerdict :=
  match s.timing.stream, s.timing.lastSync with
  | .noStream, _ => .acquires
  | .acquiring, none | .locked, none => .acquires
  | .acquiring, some last | .locked, some last =>
    let interval := instantDiff s.now last
    if interval < 2000 then .rejected
    else if interval ≤ 1000000 then .locks interval.toNat else .acquires

/-! ### Staged mode sets at a sync (R133) -/

/-- A staged set comes into force at this sync. -/
def anyDueAtSync (e : Engine) : Bool :=
  e.ms0.dueAtSync || e.ms1.dueAtSync || e.ms2.dueAtSync || e.ms3.dueAtSync

/-- The accepted sync counted toward the staged sets; those that reach 2 come into force with MODE_APPLIED,
and MS3 may move the engine between RUNNING and PATTERN (R30, R130, R133). -/
def countStaged (s : State) : State :=
  let e := s.engine
  let s := raiseIf (anyDueAtSync e) .modeApplied (s.setEngine { e with
    ms0 := e.ms0.onSync, ms1 := e.ms1.onSync, ms2 := e.ms2.onSync, ms3 := e.ms3.onSync })
  if e.ms3.dueAtSync then followSelection s else s

/-! ### The entry of a sync (R27 to R31) -/

/-- The effective lead (R29). -/
def effectiveLead (ms0 : MS0) (ms3 : MS3) : Nat := max ms0.lead (ms3.guard + 100)

/-- The due instant: sync plus offset, or the newest entry's due instant when that is later (R28). -/
def dueOf (f : FrameFormat) (sync : Instant) (frames : List Entry) : Instant :=
  match frames.getLast? with
  | some e => laterOf (addInterval sync f.dueOffset) e.due
  | none => addInterval sync f.dueOffset

/-- The entry of an accepted sync (R27 to R30). -/
def newEntry (ms0 : MS0) (ms3 : MS3) (t : Timing) (sync : Instant) : Entry :=
  let due := dueOf t.format sync t.frames
  { frameNumber := t.frameNumber, skipped := t.skip, sync := sync, format := t.format,
    target := addInterval sync ((t.format.readout + t.format.exposure) / 2), due := due,
    compute := laterOf sync (subInterval due (effectiveLead ms0 ms3)),
    cutoff := subInterval due ms3.guard, progress := .waiting }

/-- The sync is counted as skipped (R31). -/
def skipSync (s : State) : State := s.setTiming { s.timing with skip := addSkips s.timing.skip 1 }

/-- The sync gets an entry when the stream is LOCKED, the engine runs and the list has a place; it is
counted as skipped otherwise (R30, R31). -/
def decideSync (s : State) : State :=
  match s.engine.ms0.inForce, s.engine.ms3.inForce with
  | some ms0, some ms3 =>
    if s.timing.stream = .locked ∧ s.engine.state.runs = true ∧ s.timing.frames.length < 8 then
      s.setTiming { s.timing with
        frames := s.timing.frames ++ [newEntry ms0 ms3 s.timing s.now], skip := 0 }
    else skipSync s
  | _, _ => skipSync s

/-- What follows the sync's effect on the stream: the staged sets, the entry, then the engine (R30). -/
def afterSync (s : State) : State := reevaluate (decideSync (countStaged s))

/-- An edge applied to the part at the present instant (R19 to R34). -/
def applyEdge (s : State) : State :=
  match judgeEdge s with
  | .rejected => s
  | .acquires => afterSync (beginAcquisition s)
  | .locks interval => afterSync (lockStream interval s)

/-- SYNC_EDGE (R19). -/
def execSyncEdge (t : Instant) (s : State) : Result :=
  if s.isHeld then .next s else answer (applyEdge (advanceTo t s))

/-- The armed stream timeout (R22). -/
def streamTimeout (t : Timing) : Option Instant :=
  match t.stream with
  | .noStream => none
  | .acquiring => t.lastSync.map fun i => addInterval i 1000000
  | .locked => t.lastSync.map fun i => addInterval i (2 * t.period)

/-- The stream is lost (R22, R23). -/
def loseStream (s : State) : State :=
  reevaluate (raise .streamLost (s.setTiming { s.timing with stream := .noStream, period := 0 }))

/-- STREAM_TIMEOUT (R22). -/
def execStreamTimeout (s : State) : Result :=
  match streamTimeout s.timing with
  | some t => answer (loseStream (advanceTo t s))
  | none => .next s

/-! ### Lookups and prefetch (R86, R89, R92) -/

/-- What the lookups of one quantity have found so far. -/
structure Lookups where
  cache : Cache
  needs : List Need
  /-- A key could not be queued. -/
  refused : Bool
  deriving DecidableEq, Repr

/-- One lookup: a hit hands over the cell and touches its way, a miss makes a demand request (R86, R89). -/
def lookup (generation : Nat) (r : Lookups) (k : Key) : Lookups :=
  match cachedCell k r.cache with
  | some cell => { r with cache := touchKey k r.cache, needs := r.needs ++ [⟨k, some cell⟩] }
  | none =>
    let (c, queued) := demandRequest k generation r.cache
    { cache := c, needs := r.needs ++ [⟨k, none⟩], refused := r.refused || !queued }

/-- The lookups of one quantity, one key after another (R86, R135). -/
def lookupAll (generation : Nat) (keys : List Key) (c : Cache) : Lookups :=
  keys.foldl (lookup generation) ⟨c, [], false⟩

/-- The breathing quantity at a computation's start: its lookups and what it works from (R106, R108, R109,
R121, R135). -/
def startBreathing (level power focal anchor : Nat) (t : Option ActiveTable) (c : Cache) : Cache × BreathingWork :=
  if level = 0 then (c, .notFormed)
  else match t with
    | none => (c, .held)
    | some t =>
      let f := bracket t.focus power
      let a := bracket t.focus anchor
      let z := bracket t.zoom focal
      let r := lookupAll t.generation (neededKeys (breathingCorners f z ++ breathingCorners a z)) c
      (r.cache, if r.refused then .held else .gathering f a z r.needs)

/-- The shading quantity at a computation's start (R106, R108, R109, R123, R135). -/
def startShading (level power focal iris : Nat) (t : Option ActiveTable) (c : Cache) : Cache × ShadingWork :=
  if level < 2 then (c, .notFormed)
  else match t with
    | none => (c, .held)
    | some t =>
      let f := bracket t.focus power
      let z := bracket t.zoom focal
      let i := bracket t.iris iris
      let r := lookupAll t.generation (neededKeys (shadingCorners f z i)) c
      (r.cache, if r.refused then .held else .gathering f z i t.rn r.needs)

/-- OUTSIDE_TABLE of the brackets formed (R107, R108). -/
def outsideTable (level power focal iris anchor : Nat) (b s : Option ActiveTable) : Bool :=
  (decide (1 ≤ level) && match b with
    | some t => (bracket t.focus power).outside || (bracket t.focus anchor).outside || (bracket t.zoom focal).outside
    | none => false) ||
  (decide (2 ≤ level) && match s with
    | some t => (bracket t.focus power).outside || (bracket t.zoom focal).outside || (bracket t.iris iris).outside
    | none => false)

/-- The next focus index beyond a bracket in the direction of travel (R92). -/
def nextFocus (d : Direction) (b : Bracket) (knots : List Nat) : Option Nat :=
  match d with
  | .rising => if b.upper + 1 < knots.length then some (b.upper + 1) else none
  | .falling => if 1 ≤ b.lower then some (b.lower - 1) else none
  | .still => none

/-- The keys prefetched for a kind: zoom index first, then iris index, lower before upper, each once (R92). -/
def prefetchKeys (kind : TableKind) (d : Direction) (power focal iris : Nat) (t : ActiveTable) : List Key :=
  match nextFocus d (bracket t.focus power) t.focus with
  | none => []
  | some f => planKeys kind f (bracketIndices (bracket t.zoom focal)) (planIris kind t iris)

/-- The prefetch requests of one kind (R90, R92). -/
def prefetchKind (kind : TableKind) (d : Direction) (p : Position) (t : Option ActiveTable) (c : Cache) : Cache :=
  match t with
  | none => c
  | some t => (prefetchKeys kind d p.power p.focal p.iris t).foldl
      (fun c k => prefetchRequest k t.generation c) c

/-- Prefetch at a computation's start (R92). -/
def prefetchAll (ms0 : MS0) (level : Nat) (d : Direction) (p : Position) (x : Store) (c : Cache) : Cache :=
  if !ms0.prefetch || c.disabled then c
  else
    let c := if 1 ≤ level then prefetchKind .breathing d p x.breathing c else c
    if 2 ≤ level then prefetchKind .shading d p x.shading c else c

/-! ### COMPUTATION_START (R32, R135, R143) -/

/-- The body link's record level (R106). -/
def recordLevel (s : State) : Nat := (s.link .body).recordLevel.getD 0

/-- The mode sets a computation reads and the map copy it converts through. -/
structure Inputs where
  ms0 : MS0
  ms1 : MS1
  ms2 : MS2
  ms3 : MS3
  copy : MapCopy
  deriving DecidableEq, Repr

/-- A computation's inputs of other blocks. They exist whenever the engine runs (R127, R10). -/
def inputsOf (s : State) : Option Inputs :=
  match s.engine.ms0.inForce, s.engine.ms1.inForce, s.engine.ms2.inForce, s.engine.ms3.inForce, s.front.mapCopy with
  | some a, some b, some c, some d, some m => some ⟨a, b, c, d, m⟩
  | _, _, _, _, _ => none

/-- The first WAITING entry given a progress. -/
def setFirstWaiting (p : Progress) : List Entry → List Entry
  | [] => []
  | e :: es => if e.progress = .waiting then { e with progress := p } :: es else e :: setFirstWaiting p es

/-- The first WAITING entry. -/
def firstWaiting (es : List Entry) : Option Entry := es.find? fun e => decide (e.progress = .waiting)

/-- The entry that begins its computation, with the inputs (R32): the oldest WAITING one, when none is
COMPUTING and the engine runs. -/
def startable (s : State) : Option (Entry × Inputs) :=
  if !s.engine.state.runs || (computingEntry s.timing.frames).isSome then none
  else match firstWaiting s.timing.frames, inputsOf s with
    | some e, some x => some (e, x)
    | _, _ => none

/-- The first WAITING entry's progress replaced in the list. -/
def setProgress (p : Progress) (s : State) : State :=
  s.setTiming { s.timing with frames := setFirstWaiting p s.timing.frames }

/-- A pattern computation: it predicts, takes k from the pattern counter and ends at once (R143). -/
def computePattern (e : Entry) (x : Inputs) (s : State) : State :=
  let p := predictFrame x.ms0 e.target x.copy s
  let d := deliverPattern p s.auth.anchor (recordLevel s) s.engine.patternCounter.toNat
  let s := notePredictions x.ms0 e.target x.copy s
  setProgress (.ready d) (s.setEngine { s.engine with patternCounter := s.engine.patternCounter + 1 })

/-- A computation at its start with the cache it leaves: steps 1 to 5 of R135. -/
def openComputation (x : Inputs) (p : FramePrediction) (s : State) : Cache × Computation :=
  let level := recordLevel s
  let anchor := s.auth.anchor
  let (c, b) := startBreathing level p.position.power p.position.focal anchor s.store.breathing s.cache
  let (c, sh) := startShading level p.position.power p.position.focal p.position.iris s.store.shading c
  (prefetchAll x.ms0 level p.direction p.position s.store c,
   { position := p.position, axisHeld := p.axisHeld, targetStale := p.targetStale, anchor := anchor,
     level := level, ms1 := x.ms1, ms2 := x.ms2, policy := x.ms3.policy, previous := s.engine.previous,
     breathing := b, shading := sh,
     outsideTable := outsideTable level p.position.power p.position.focal p.position.iris anchor
       s.store.breathing s.store.shading,
     sameStay := true })

/-- A computation begun in RUNNING. It ends at once when it awaits nothing or begins at or after its
cutoff (R135 to R137). -/
def computeFrame (e : Entry) (x : Inputs) (s : State) : State :=
  let p := predictFrame x.ms0 e.target x.copy s
  let s := notePredictions x.ms0 e.target x.copy s
  let (cache, c) := openComputation x p s
  let s := setProgress (.computing c) (s.setCache cache)
  if c.settled || decide (0 ≤ instantDiff s.now e.cutoff) then
    onComputing (fun e c g => endComputation e c.holdMissing g) s
  else s

/-- COMPUTATION_START: the oldest WAITING entry begins at its compute instant, or at once when that has
passed (R32, R135, R143). -/
def execComputationStart (s : State) : Result :=
  match startable s with
  | none => .next s
  | some (e, x) =>
    let s := advanceTo e.compute s
    answer (if s.engine.state = .pattern then computePattern e x s else computeFrame e x s)

/-! ### CUTOFF (R136) -/

/-- CUTOFF: what is still awaited is held and the computation ends (R121, R123, R136). -/
def execCutoff (s : State) : Result :=
  match computingEntry s.timing.frames with
  | some (e, _) =>
    answer (onComputing (fun e c g => endComputation e c.holdMissing g) (advanceTo e.cutoff s))
  | none => .next s

/-! ### DUE_INSTANT (R33, R126, R140, R141) -/

/-- The events of a record that leaves (R126). -/
def raiseRecordEvents (f : RecordFlags) (s : State) : State :=
  raiseIf (f.scaleClamped || f.scaleSlewed) .scaleLimited (raiseIf (f.scaleHeld || f.shadingHeld) .recordHeld s)

/-- The per-frame position report, while the accessory link is UP (R141). -/
def sendFrameReport (e : Entry) (d : Delivered) (s : State) : State :=
  if accessoryUp s then handRecord .accessory (frameReport s e d) s else s

/-- A READY entry is handed to the link units and leaves the list (R33). -/
def handOver (e : Entry) (d : Delivered) (rest : List Entry) (s : State) : State :=
  let s := s.setTiming { s.timing with frames := rest }
  raiseRecordEvents d.flags (sendFrameReport e d (handRecord .body (recordFrame e d) s))

/-- DUE_INSTANT of the oldest entry, which is READY by then (R32, R33). -/
def execDueInstant (s : State) : Result :=
  match s.timing.frames with
  | ⟨n, k, sync, f, target, due, compute, cutoff, .ready d⟩ :: rest =>
    answer (handOver ⟨n, k, sync, f, target, due, compute, cutoff, .ready d⟩ d rest (advanceTo due s))
  | _ => .next s

end Sys2Proof.Machine
end

