-- ==== Sys2Proof/Machine/Port.lean ====
section
/-! DEFINITION. The steps of the flash read port and of the store operations' work: PORT_READ_START,
FILL_COMPLETE, WALK_READ_COMPLETE, READ_STORE_READ_END, STORE_WORK_BEGINS, ERASE_COMPLETE,
PROGRAM_COMPLETE, SET_READ_PROTECTION_COMPLETE and CLEAR_PROTECTION_SECTOR_ERASED (R70 to R82, R91, R96). -/

namespace Sys2Proof.Machine

/-! ### The arbiter (R80) -/

/-- The sources of the port in their rank (R80). -/
inductive PortSource where
  | demand (key : Key)
  | walk (key : Key)
  | prefetch (key : Key)
  | readStore (request : ReadRequest)
  deriving DecidableEq, Repr

/-- The cell at which a walk in progress waits for the port (R96). -/
def walkKey (w : Walk) : Option Key :=
  match w.state with
  | .walking => w.rest.head?
  | .idle | .done | .abandoned => none

/-- The first source that has a read ready (R80). -/
def nextSource (s : State) : Option PortSource :=
  match firstReady s.cache.demand, walkKey s.cache.walk, firstReady s.cache.prefetch, s.store.readStoreWaiting with
  | some e, _, _, _ => some (.demand e.key)
  | none, some k, _, _ => some (.walk k)
  | none, none, some e, _ => some (.prefetch e.key)
  | none, none, none, r :: _ => some (.readStore r)
  | none, none, none, [] => none

/-- The port begins a read. -/
def setPort (job : PortJob) (s : State) : State := s.setStore { s.store with port := some ⟨job, s.now⟩ }

/-- A read of a source begins (R80, R88). The cell is the one flash holds as the read begins (R61, log 26). -/
def startSource (x : PortSource) (s : State) : State :=
  match x with
  | .demand k =>
    match s.active k.kind with
    | some t => setPort (.fill k (cellAt s.store.flash t k))
        (s.setCache { s.cache with demand := markFirst s.cache.demand })
    | none => s
  | .walk k =>
    match s.active k.kind with
    | some t => setPort (.walk k (cellAt s.store.flash t k) t.generation false) s
    | none => s
  | .prefetch k =>
    match s.active k.kind with
    | some t => setPort (.fill k (cellAt s.store.flash t k))
        (s.setCache { s.cache with prefetch := markFirst s.cache.prefetch })
    | none => s
  | .readStore r =>
    setPort (.readStore r false) (s.setStore { s.store with readStoreWaiting := s.store.readStoreWaiting.drop 1 })

/-- The port is free and no store operation or start-up scan has claimed it (R80, R81). -/
def portFree (s : State) : Bool := s.started && s.store.port.isNone && s.store.op.isNone

/-- PORT_READ_START: the arbiter starts the next read (R80). -/
def execPortReadStart (s : State) : Result :=
  match nextSource s with
  | some x => if portFree s then answer (startSource x s) else .next s
  | none => .next s

/-! ### Reads that end (R91, R96, R79) -/

/-- Time passes to the end of a read and the port is free. -/
def endRead (since : Instant) (length : Nat) (s : State) : State :=
  let s := advanceTo (addInterval since length) s
  s.setStore { s.store with port := none }

/-- The generation of a kind's active table. -/
def activeGeneration (kind : TableKind) (s : State) : Option Nat := (s.active kind).map ActiveTable.generation

/-- A fill ends: its entry leaves the queue, and a cell of the active generation is placed and handed to the
computation that awaits it (R91, R136). -/
def finishFill (k : Key) (cell : Cell) (s : State) : State :=
  let tag := (readEntry k s.cache).map FillEntry.generation
  let s := s.setCache (removeRead k s.cache)
  if tag.isSome && decide (tag = activeGeneration k.kind s) then
    handCell k cell (s.setCache (placeCell k cell s.cache))
  else s

/-- FILL_COMPLETE: a 24 µs fill read ends (R80, R91). -/
def execFillComplete (s : State) : Result :=
  match s.store.port with
  | some ⟨.fill k cell, since⟩ => answer (finishFill k cell (endRead since 24 s))
  | _ => .next s

/-- A walk's cell is placed and locked (R87, R96). -/
def placeLocked (k : Key) (cell : Cell) (c : Cache) : Cache :=
  let c := placeCell k cell c
  { c with sets := changeSet k (lockInSet k) c.sets }

/-- A walk's read ends: the cell of the active generation is placed and locked, another is skipped, and the
walk advances. A read whose walk has stopped is discarded (R94, R96, R97). -/
def finishWalkRead (k : Key) (cell : Cell) (generation : Nat) (dropped : Bool) (s : State) : State :=
  if dropped || decide (s.cache.walk.state ≠ .walking) then s
  else
    let good := decide (some generation = activeGeneration k.kind s)
    let c := if good then placeLocked k cell s.cache else s.cache
    let w := c.walk
    walkAdvance (s.setCache { c with walk := { w with
      rest := w.rest.drop 1,
      locked := if good then w.locked + 1 else w.locked,
      skipped := if good then w.skipped else w.skipped + 1 } })

/-- WALK_READ_COMPLETE: a 24 µs read of the lock walk ends (R80, R96). -/
def execWalkReadComplete (s : State) : Result :=
  match s.store.port with
  | some ⟨.walk k cell generation dropped, since⟩ =>
    answer (finishWalkRead k cell generation dropped (endRead since 24 s))
  | _ => .next s

/-- READ_STORE_READ_END: a 40 µs READ STORE ends and its reply joins the accessory link's list, unless that
link has left UP (R79, R149, R157). -/
def execReadStoreReadEnd (s : State) : Result :=
  match s.store.port with
  | some ⟨.readStore r dropped, since⟩ =>
    let s := endRead since 40 s
    answer (if dropped then s else answerReadStore (0 :: readBytes r s) s)
  | _ => .next s

/-! ### Store operations (R70 to R78, R81) -/

/-- STORE_WORK_BEGINS: the work of the operation in flight begins once the port is free (R81). -/
def execStoreWorkBegins (s : State) : Result :=
  match s.store.op with
  | some ⟨name, sector, page, none⟩ =>
    if s.store.port.isNone then answer (beginWork ⟨name, sector, page, none⟩ s) else .next s
  | _ => .next s

/-- ERASE_COMPLETE: the 45 ms erase of ERASE SECTOR ends (R72). -/
def execEraseComplete (s : State) : Result :=
  match s.store.op with
  | some ⟨.eraseSector, some n, page, some since⟩ =>
    answer (finishErase ⟨.eraseSector, some n, page, some since⟩ n (advanceTo (addInterval since 45000) s))
  | _ => .next s

/-- PROGRAM_COMPLETE: the 1.5 ms program of PROGRAM PAGE ends (R73). -/
def execProgramComplete (s : State) : Result :=
  match s.store.op with
  | some ⟨.programPage, some n, some p, some since⟩ =>
    answer (finishProgram ⟨.programPage, some n, some p, some since⟩ n p (advanceTo (addInterval since 1500) s))
  | _ => .next s

/-- SET_READ_PROTECTION_COMPLETE: the 1.5 ms marker program ends (R77). -/
def execSetReadProtectionComplete (s : State) : Result :=
  match s.store.op with
  | some ⟨.setReadProtection, n, p, some since⟩ =>
    answer (finishProtect ⟨.setReadProtection, n, p, some since⟩ (advanceTo (addInterval since 1500) s))
  | _ => .next s

/-- CLEAR_PROTECTION_SECTOR_ERASED: one 45 ms erase of CLEAR READ PROTECTION ends (R78). -/
def execClearProtectionSectorErased (s : State) : Result :=
  match s.store.op with
  | some ⟨.clearReadProtection, some n, p, some since⟩ =>
    answer (finishClearSector ⟨.clearReadProtection, some n, p, some since⟩ n
      (advanceTo (addInterval since 45000) s))
  | _ => .next s

end Sys2Proof.Machine
end

