-- ==== Sys2Proof/Machine/LinkEvents.lean ====
section
/-! DEFINITION. The steps of the link units: received bytes and frames, the exchange's timers, the
transmitters, the periodic report and the restart after RENEGOTIATE (R142, R146 to R158, R176). -/

namespace Sys2Proof.Machine

/-! ### Good frames (R148, R149) -/

/-- A good frame handed to its link unit, by its kind (R148, R186). -/
def goodFrame (l : Link) (t : Instant) (kind : Byte) (p : List Byte) (s : State) : State :=
  match kind.toNat with
  | 0x01 => takeAbility l t p s
  | 0x10 => takeIdentify l t p s
  | 0x11 => takeReadStatus l t p s
  | 0x12 => takeReadPosition l t p s
  | 0x13 => takeReadEvents l t p s
  | 0x14 => takeModifyEvents l t p s
  | 0x15 => takeSetEventEnables l t p s
  | 0x16 => takeRenegotiate l t p s
  | 0x17 => takeReinitialize l t p s
  | 0x20 => takeFrameFormat l t p s
  | 0x21 => takeFrameInfo l t p s
  | 0x22 => takeWriteModeSet l t p s
  | 0x23 => takeReadModeSet l t p s
  | 0x30 => takeSetAnchor l t p s
  | 0x31 => takeAnchorHere l t p s
  | 0x32 => takeSetMark l t p s
  | 0x33 => takeDeleteMark l t p s
  | 0x34 => takeReadMarks l t p s
  | 0x38 => takeLockPath l t p s
  | 0x39 => takeUnlock l t p s
  | 0x3A => takeCacheStatus l t p s
  | 0x3B => takeDumpCache l t p s
  | 0x40 => takeLoadPageBuffer l t p s
  | 0x41 => takeProgramPage l t p s
  | 0x42 => takeEraseSector l t p s
  | 0x43 => takeRescanTables l t p s
  | 0x44 => takeReadStore l t p s
  | 0x45 => takeSetReadProtection l t p s
  | 0x46 => takeClearReadProtection l t p s
  | _ => takeUnknownKind l t kind s

/-- UNKNOWN_KIND_REQUEST (R149, R176). An ill-formed command, whose kind is a known one, does what that
kind's frame does. -/
def execUnknownKindRequest (l : Link) (t : Instant) (kind : Byte) (p : List Byte) (s : State) : Result :=
  answer (goodFrame l t kind p s)

/-- ABILITY (R148). -/
def execAbility (l : Link) (t : Instant) (p : List Byte) (s : State) : Result := answer (takeAbility l t p s)

/-! ### The frame parser (R147) -/

/-- What a received byte does to the parser. -/
inductive ByteEffect where
  /-- The byte is discarded while hunting. -/
  | ignored
  /-- The frame goes on with these bytes after its marker. -/
  | continues (bytes : List Byte)
  /-- The length byte is above 240 or the CRC differs. -/
  | abandons
  /-- A good frame ends. -/
  | completes (kind : Byte) (payload : List Byte)
  deriving DecidableEq, Repr

/-- A whole frame after its marker is good: the CRC agrees (R52, R147). -/
def crcAgrees (bytes : List Byte) (length : Nat) : Bool :=
  crc16 (bytes.take (length + 2)) == BitVec.ofNat 16 (field16 bytes (length + 2))

/-- The effect of the bytes received after a marker, the newest last (R147). -/
def frameEffect (bytes : List Byte) : ByteEffect :=
  let length := byteAt bytes 1
  if bytes.length < 2 then .continues bytes
  else if 240 < length then .abandons
  else if bytes.length < length + 4 then .continues bytes
  else if crcAgrees bytes length then .completes (bytes.getD 0 0) ((bytes.drop 2).take length)
  else .abandons

/-- The effect of a byte on a parser (R147). -/
def byteEffect (p : Parser) (b : Byte) : ByteEffect :=
  match p with
  | .hunting => if b = 0xA5 then .continues [] else .ignored
  | .inFrame bytes _ => frameEffect (bytes ++ [b])

/-- A frame is abandoned: FRAME_REJECTED on this link, and the parser hunts (R147). -/
def abandonFrame (l : Link) (t : Instant) (s : State) : State := raiseOn l .frameRejected (frameEnds l t s)

/-- A frame goes on, the gap timer armed for 200 µs (R147). -/
def continueFrame (l : Link) (t : Instant) (bytes : List Byte) (s : State) : State :=
  let s := advanceTo t s
  s.setLink l { s.link l with parser := .inFrame bytes (addInterval s.now 200) }

/-- A byte received on a link (R146, R147). -/
def receiveByte (l : Link) (t : Instant) (b : Byte) (s : State) : State :=
  if s.isHeld then s
  else if !s.started then advanceTo t s
  else match byteEffect (s.link l).parser b with
    | .ignored => advanceTo t s
    | .continues bytes => continueFrame l t bytes s
    | .abandons => abandonFrame l t s
    | .completes kind payload => goodFrame l t kind payload s

/-- BYTE_RECEIVED (R147). A byte that ends its frame does what that ending's own row does (log 10). -/
def execByteReceived (l : Link) (t : Instant) (b : Byte) (s : State) : Result := answer (receiveByte l t b s)

/-- FRAME_ABANDONED: the byte ends its frame badly (R147). -/
def execFrameAbandoned (l : Link) (t : Instant) (b : Byte) (s : State) : Result :=
  match byteEffect (s.link l).parser b with
  | .abandons => if s.started then answer (abandonFrame l t s) else .next s
  | _ => .next s

/-- FRAME_GAP_TIMEOUT: the gap timer expires within a frame (R147). -/
def execFrameGapTimeout (l : Link) (s : State) : Result :=
  match (s.link l).parser with
  | .inFrame _ due => answer (abandonFrame l due s)
  | .hunting => .next s

/-! ### The exchange's timers (R153 to R156) -/

/-- The interval between ABILITY frames in a link state (R153 to R155). -/
def abilityInterval : LinkState → Nat
  | .silent => 10000
  | .abilityDetect | .acknowledge | .up => 2000

/-- ABILITY_SEND_DUE: an ABILITY frame comes due and the next interval begins (R150, R153 to R155). -/
def execAbilitySendDue (l : Link) (s : State) : Result :=
  match (s.link l).sendDue with
  | some due =>
    answer (abilitySend l (addInterval due (abilityInterval (s.link l).state)) (advanceTo due s))
  | none => .next s

/-- ABILITY_DETECT times out: count and previous word are cleared (R154). -/
def detectTimeout (l : Link) (s : State) : State :=
  enterSilent l (s.setLink l { s.link l with matchCount := 0, previousWord := none })

/-- ACKNOWLEDGE times out: the accepted word is cleared (R155). -/
def acknowledgeTimeout (l : Link) (s : State) : State :=
  enterSilent l (s.setLink l { s.link l with acceptedWord := none })

/-- ABILITY_TIMEOUT: 100 ms without a valid word in ABILITY_DETECT or ACKNOWLEDGE (R154, R155). -/
def execAbilityTimeout (l : Link) (s : State) : Result :=
  match (s.link l).state, (s.link l).timeout with
  | .abilityDetect, some due => answer (detectTimeout l (advanceTo due s))
  | .acknowledge, some due => answer (acknowledgeTimeout l (advanceTo due s))
  | _, _ => .next s

/-- LINK_UP_TIMEOUT: 250 ms in UP without a good frame; the link enters SILENT (R156, R157). -/
def execLinkUpTimeout (l : Link) (s : State) : Result :=
  match (s.link l).state, (s.link l).timeout with
  | .up, some due => answer (enterSilent l (leaveUp l (advanceTo due s)))
  | _, _ => .next s

/-! ### The transmitters (R150, R158, R195) -/

/-- What the end of a sent frame brings: the restart of REINITIALIZE or of RENEGOTIATE is due after its
reply, and otherwise the transmitter begins the next waiting frame (R150, R158, R195). -/
def afterTransmit (l : Link) (f : TxFrame) (s : State) : State :=
  if isBareOk 0x17 f ∧ s.seq.reinit = .replying l then s.setSeq { s.seq with reinit := .due }
  else if isBareOk 0x16 f ∧ (s.link l).state = .up then
    s.setLink l { s.link l with renegotiateDue := true }
  else startTransmit l s

/-- TRANSMIT_END: the frame being sent ends (R146, R150). -/
def execTransmitEnd (l : Link) (s : State) : Result :=
  match (s.link l).sending with
  | some (f, since) =>
    let s := advanceTo (addInterval since (frameTime s.seq.straps l f)) s
    answer (afterTransmit l f (s.setLink l { s.link l with sending := none }))
  | none => .next s

/-- RENEGOTIATE_LINK_RESTART: the link leaves UP and enters ABILITY_DETECT with count 0 (R158). -/
def execRenegotiateLinkRestart (l : Link) (s : State) : Result :=
  if (s.link l).renegotiateDue then answer (enterDetect l 0 none (leaveUp l s)) else .next s

/-! ### The periodic report (R142) -/

/-- The report is sent and the next interval begins (R142). -/
def sendPeriodicReport (due : Instant) (s : State) : State :=
  handRecord .accessory (periodicReport s)
    (s.setEngine { s.engine with reportDue := some (addInterval due 20000) })

/-- PERIODIC_REPORT_DUE: the 20 ms interval expires (R142). -/
def execPeriodicReportDue (s : State) : Result :=
  match s.engine.reportDue with
  | some due =>
    if accessoryUp s && !s.engine.state.runs then answer (sendPeriodicReport due (advanceTo due s)) else .next s
  | none => .next s

end Sys2Proof.Machine
end

