-- ==== Sys2Proof/Machine/Dispatch.lean ====
section
/-! DEFINITION. Which meaning each command has: one arm for each row of the opcode table. -/

namespace Sys2Proof.Machine

def exec (i : Instr) (s : State) : Host.Outcome State Fault Refusal :=
  match i with
  | .powerOn => Sys2Proof.Machine.execPowerOn s
  | .pinReset => Sys2Proof.Machine.execPinReset s
  | .leaveReset straps => Sys2Proof.Machine.execLeaveReset straps s
  | .cacheRamCheckDone passed => Sys2Proof.Machine.execCacheRamCheckDone passed s
  | .selfTestEncoderAttempt => Sys2Proof.Machine.execSelfTestEncoderAttempt s
  | .selfTestEncoderReadDone axis answer => Sys2Proof.Machine.execSelfTestEncoderReadDone axis answer s
  | .markerAreaReadDone => Sys2Proof.Machine.execMarkerAreaReadDone s
  | .tableScanEnd => Sys2Proof.Machine.execTableScanEnd s
  | .samplingInstant => Sys2Proof.Machine.execSamplingInstant s
  | .encoderReadComplete axis answer => Sys2Proof.Machine.execEncoderReadComplete axis answer s
  | .syncEdge instant => Sys2Proof.Machine.execSyncEdge instant s
  | .streamTimeout => Sys2Proof.Machine.execStreamTimeout s
  | .computationStart => Sys2Proof.Machine.execComputationStart s
  | .cutoff => Sys2Proof.Machine.execCutoff s
  | .dueInstant => Sys2Proof.Machine.execDueInstant s
  | .portReadStart => Sys2Proof.Machine.execPortReadStart s
  | .fillComplete => Sys2Proof.Machine.execFillComplete s
  | .walkReadComplete => Sys2Proof.Machine.execWalkReadComplete s
  | .readStoreReadEnd => Sys2Proof.Machine.execReadStoreReadEnd s
  | .storeWorkBegins => Sys2Proof.Machine.execStoreWorkBegins s
  | .eraseComplete => Sys2Proof.Machine.execEraseComplete s
  | .programComplete => Sys2Proof.Machine.execProgramComplete s
  | .setReadProtectionComplete => Sys2Proof.Machine.execSetReadProtectionComplete s
  | .clearProtectionSectorErased => Sys2Proof.Machine.execClearProtectionSectorErased s
  | .frameAbandoned link instant byte => Sys2Proof.Machine.execFrameAbandoned link instant byte s
  | .frameGapTimeout link => Sys2Proof.Machine.execFrameGapTimeout link s
  | .ability link instant payload => Sys2Proof.Machine.execAbility link instant payload s
  | .abilitySendDue link => Sys2Proof.Machine.execAbilitySendDue link s
  | .abilityTimeout link => Sys2Proof.Machine.execAbilityTimeout link s
  | .linkUpTimeout link => Sys2Proof.Machine.execLinkUpTimeout link s
  | .transmitEnd link => Sys2Proof.Machine.execTransmitEnd link s
  | .periodicReportDue => Sys2Proof.Machine.execPeriodicReportDue s
  | .reinitializeRestart => Sys2Proof.Machine.execReinitializeRestart s
  | .renegotiateLinkRestart link => Sys2Proof.Machine.execRenegotiateLinkRestart link s
  | .identify link instant payload => Sys2Proof.Machine.execIdentify link instant payload s
  | .readStatus link instant payload => Sys2Proof.Machine.execReadStatus link instant payload s
  | .readPosition link instant payload => Sys2Proof.Machine.execReadPosition link instant payload s
  | .readEvents link instant payload => Sys2Proof.Machine.execReadEvents link instant payload s
  | .modifyEvents link instant payload => Sys2Proof.Machine.execModifyEvents link instant payload s
  | .setEventEnables link instant payload => Sys2Proof.Machine.execSetEventEnables link instant payload s
  | .renegotiate link instant payload => Sys2Proof.Machine.execRenegotiate link instant payload s
  | .reinitialize link instant payload => Sys2Proof.Machine.execReinitialize link instant payload s
  | .frameFormat link instant payload => Sys2Proof.Machine.execFrameFormat link instant payload s
  | .frameInfo link instant payload => Sys2Proof.Machine.execFrameInfo link instant payload s
  | .writeModeSet link instant payload => Sys2Proof.Machine.execWriteModeSet link instant payload s
  | .readModeSet link instant payload => Sys2Proof.Machine.execReadModeSet link instant payload s
  | .setAnchor link instant payload => Sys2Proof.Machine.execSetAnchor link instant payload s
  | .anchorHere link instant payload => Sys2Proof.Machine.execAnchorHere link instant payload s
  | .setMark link instant payload => Sys2Proof.Machine.execSetMark link instant payload s
  | .deleteMark link instant payload => Sys2Proof.Machine.execDeleteMark link instant payload s
  | .readMarks link instant payload => Sys2Proof.Machine.execReadMarks link instant payload s
  | .lockPath link instant payload => Sys2Proof.Machine.execLockPath link instant payload s
  | .unlock link instant payload => Sys2Proof.Machine.execUnlock link instant payload s
  | .cacheStatus link instant payload => Sys2Proof.Machine.execCacheStatus link instant payload s
  | .dumpCache link instant payload => Sys2Proof.Machine.execDumpCache link instant payload s
  | .loadPageBuffer link instant payload => Sys2Proof.Machine.execLoadPageBuffer link instant payload s
  | .programPage link instant payload => Sys2Proof.Machine.execProgramPage link instant payload s
  | .eraseSector link instant payload => Sys2Proof.Machine.execEraseSector link instant payload s
  | .rescanTables link instant payload => Sys2Proof.Machine.execRescanTables link instant payload s
  | .readStore link instant payload => Sys2Proof.Machine.execReadStore link instant payload s
  | .setReadProtection link instant payload => Sys2Proof.Machine.execSetReadProtection link instant payload s
  | .clearReadProtection link instant payload => Sys2Proof.Machine.execClearReadProtection link instant payload s
  | .unknownKindRequest link instant kind payload => Sys2Proof.Machine.execUnknownKindRequest link instant kind payload s
  | .byteReceived link instant byte => Sys2Proof.Machine.execByteReceived link instant byte s

end Sys2Proof.Machine
end

