-- ==== Sys2Proof/Safety.lean ====
section
/-! DEFINITION. The laws the part keeps, predicates on a state that hold at reset and that every step
keeps, and the words the statements about single commands share. -/

namespace Sys2Proof.Machine

/-! ### Laws -/

/-- The flash array is in canonical form, the page buffer holds 256 bytes, and the verdicts and headers are
those of seven and six sectors (R60, R68, R71; log 5). -/
def StoreLaw (s : State) : Prop :=
  flashWf s.store.flash = true ∧ s.store.pageBuffer.length = 256 ∧
  s.store.verdicts.length = 7 ∧ s.store.headers.length = 6

/-- A link's words: every level bit whose condition holds is set, and the attention line is active exactly
when the two words share a set bit (R181, R184). -/
def UnitLaw (levels : EventWord) (u : EventUnit) : Prop :=
  levels &&& ~~~u.pending = 0 ∧ u.attention = (u.pending &&& u.enable != 0)

/-- The event unit holds no words exactly while the part is held in reset, and otherwise each link's words
and line are as R181 and R184 say (R179). -/
def EventLaw (s : State) : Prop :=
  match s.events with
  | none => s.isHeld = true
  | some w => s.isHeld = false ∧ UnitLaw (levelWord s) w.body ∧ UnitLaw (levelWord s) w.accessory

/-- The engine's state agrees with its conditions, STANDBY does not outlast the conditions of RUNNING and PATTERN,
contents are staged only while it runs, and frames are pending only while it runs (8.1, R34, R127, R128, R131). -/
def EngineLaw (s : State) : Prop :=
  (s.engine.state = .unconfigured ↔ configured s = false) ∧
  (s.engine.state.runs = true → s.timing.stream = .locked ∧ (s.link .body).state = .up) ∧
  (s.engine.state = .running → patternSelected s.engine = false) ∧
  (s.engine.state = .pattern → patternSelected s.engine = true) ∧
  (s.engine.state.runs = false → anyStaged s.engine = false ∧ s.timing.frames = []) ∧
  ¬(s.engine.state = .standby ∧ s.timing.stream = .locked ∧ (s.link .body).state = .up ∧ s.store.op = none)

/-- A link holds authority only while it is UP, a conflict has both links UP and no holder, and the
equal-seed count is at most 7 (R160, R161, R163). -/
def AuthorityLaw (s : State) : Prop :=
  (∀ l, s.auth.holder = some l → (s.link l).state = .up) ∧
  (s.auth.conflict = true →
    s.auth.holder = none ∧ (s.link .body).state = .up ∧ (s.link .accessory).state = .up) ∧
  s.auth.equalSeeds ≤ 7

/-- The marks stand in order of power and id, no two with one id, each with an id up to 7 and a label of at
most 8 bytes (R170). -/
def MarksLaw (s : State) : Prop :=
  s.auth.marks.Pairwise (fun a b => markBefore a b = true) ∧ (s.auth.marks.map Mark.id).Nodup ∧
  ∀ m ∈ s.auth.marks, m.id ≤ 7 ∧ m.label.length ≤ 8

/-- The focus powers the part holds are at most 20 000 mD (R11, R167, R169, R170). -/
def PowerLaw (s : State) : Prop :=
  s.auth.anchor ≤ 20000 ∧ (∀ m ∈ s.auth.marks, m.power ≤ 20000) ∧
  (∀ p, s.engine.lastPrediction = some p → p.power ≤ 20000) ∧
  (∀ r v, s.front.axes.focus.latest = some r → r.value = some v → v ≤ 20000)

/-- The keys of the fill queue, demand part first. -/
def queueKeys (c : Cache) : List Key := (c.demand ++ c.prefetch).map FillEntry.key

/-- The fill queue never holds more than 16 entries, more than 8 prefetches or two entries of one key
(R88). -/
def QueueLaw (s : State) : Prop :=
  queueLength s.cache ≤ 16 ∧ s.cache.prefetch.length ≤ 8 ∧ (queueKeys s.cache).Nodup

/-- Every entry waits. -/
def allWaiting (es : List Entry) : Prop := ∀ e ∈ es, e.progress = .waiting

/-- The pending list's progress: READY entries first, then at most one COMPUTING, then WAITING ones (R32). -/
def ProgressOrder : List Entry → Prop
  | [] => True
  | e :: es =>
    match e.progress with
    | .ready _ => ProgressOrder es
    | .computing _ | .waiting => allWaiting es

/-- Due instants never fall from one entry to the next (R28). -/
def DueRises : List Entry → Prop
  | [] => True
  | [_] => True
  | a :: b :: rest => 0 ≤ instantDiff b.due a.due ∧ DueRises (b :: rest)

/-- The pending list holds at most 8 entries, in order of progress and of due instants, and the skip
counter is at most 255 (R28, R30, R31, R32). -/
def FrameLaw (s : State) : Prop :=
  s.timing.frames.length ≤ 8 ∧ ProgressOrder s.timing.frames ∧ DueRises s.timing.frames ∧ s.timing.skip ≤ 255

/-- The period is 0 outside LOCKED and an interval R21 admits in LOCKED, and a stream has an accepted sync
(2.3, R19 to R22). -/
def StreamLaw (s : State) : Prop :=
  (s.timing.stream ≠ .locked → s.timing.period = 0) ∧
  (s.timing.stream = .locked → 2000 ≤ s.timing.period ∧ s.timing.period ≤ 1000000) ∧
  (s.timing.stream ≠ .noStream → s.timing.lastSync.isSome = true)

/-- The state, runs and ring of one axis agree (1.2, 1.3, R2, R6, R8). -/
def AxisUnitLaw (fitted : Bool) (u : AxisUnit) : Prop :=
  u.ring.length ≤ 32 ∧ (u.reading.isSome = true → fitted = true) ∧ (u.state = .absent ↔ fitted = false) ∧
  match u.state with
  | .absent => u.ring = [] ∧ u.latest = none
  | .seeking => u.invalidRun ≤ 7 ∧ u.validRun = 0 ∧ u.latest = none
  | .live => u.invalidRun = 0 ∧ u.validRun = 0
  | .stale => 1 ≤ u.invalidRun ∧ u.invalidRun ≤ 7 ∧ u.validRun = 0
  | .lost => u.invalidRun = 8 ∧ u.validRun ≤ 1

/-- Each axis is as R2, R6 and R8 say. -/
def AxisLaw (s : State) : Prop := ∀ a, AxisUnitLaw (s.fitted a) (s.front.axes.get a)

/-- A frame format inside the ranges of 2.4. -/
def FormatInRange (f : FrameFormat) : Prop :=
  1000 ≤ f.hd ∧ f.hd ≤ 30000 ∧ f.margin ≤ 100000 ∧ f.cropLimit ≤ 200000 ∧
  500 ≤ f.dueOffset ∧ f.dueOffset ≤ 100000 ∧ 1 ≤ f.exposure ∧ f.exposure ≤ 1000000 ∧ f.readout ≤ 100000

/-- A predicate of a mode set's contents holds of those in force and of those staged. -/
def ModeSet.Holds {α : Type} (p : α → Prop) (m : ModeSet α) : Prop :=
  (∀ x, m.inForce = some x → p x) ∧ (∀ x, m.staged = some x → p x.contents ∧ x.syncs ≤ 1)

/-- MS0 inside the ranges of 8.2 and R132. -/
def MS0.InRange (m : MS0) : Prop :=
  500 ≤ m.span ∧ m.span ≤ 8000 ∧ m.span % 500 = 0 ∧ m.horizon ≤ 20000 ∧ m.deadband ≤ 64 ∧
  300 ≤ m.lead ∧ m.lead ≤ 8000

/-- MS1 inside the ranges of 8.2. -/
def MS1.InRange (m : MS1) : Prop := m.strength ≤ 100 ∧ m.slewLimit ≤ 50000

/-- MS2 inside the ranges of 8.2. -/
def MS2.InRange (m : MS2) : Prop := m.strength ≤ 100 ∧ 4096 ≤ m.gainCap ∧ m.gainCap ≤ 32767

/-- MS3 inside the ranges of 8.2. -/
def MS3.InRange (m : MS3) : Prop := 100 ≤ m.guard ∧ m.guard ≤ 1000

/-- Every setting the part holds is inside its range: the frame format in force and its copies, and the mode
sets in force and staged (R24, R131 to R133). -/
def SettingsLaw (s : State) : Prop :=
  FormatInRange s.timing.format ∧ (∀ e ∈ s.timing.frames, FormatInRange e.format) ∧
  s.engine.ms0.Holds MS0.InRange ∧ s.engine.ms1.Holds MS1.InRange ∧
  s.engine.ms2.Holds MS2.InRange ∧ s.engine.ms3.Holds MS3.InRange

/-- One set of the cache: four ways at ranks 0 to 3, at most three locked entries, every entry's key placed
in this set, and no key twice (R84, R85). -/
def SetLaw (i : Nat) (ways : List Way) : Prop :=
  ways.length = 4 ∧ (ways.map Way.rank).Perm [0, 1, 2, 3] ∧ lockedCount ways ≤ 3 ∧
  (∀ w ∈ ways, ∀ c, w.content = some c → setIndex c.key = i) ∧
  (ways.filterMap fun w => w.content.map WayContent.key).Nodup

/-- A walk in progress waits at a cell whose set has room for a lock, a read of it on the port is of that
cell, and its counts add up to its plan, as at its end (R96, R97). -/
def WalkLaw (s : State) : Prop :=
  (s.cache.walk.state = .walking →
    ∃ k ks, s.cache.walk.rest = k :: ks ∧ lockedCount (setOf k s.cache.sets) < 3) ∧
  (s.cache.walk.state = .done → s.cache.walk.rest = []) ∧
  (s.cache.walk.state = .walking ∨ s.cache.walk.state = .done →
    s.cache.walk.planned = s.cache.walk.locked + s.cache.walk.skipped + s.cache.walk.rest.length) ∧
  (∀ k cell g t, s.store.port = some ⟨.walk k cell g false, t⟩ →
    s.cache.walk.state = .walking ∧ s.cache.walk.rest.head? = some k)

/-- The cache holds 64 sets, each as R85 says, its lock walk is as R96 and R97 say, and no read of the port's
four sources is in progress until start-up has ended (R81, R83, R103). -/
def CacheLaw (s : State) : Prop :=
  s.cache.sets.length = 64 ∧ (∀ i ways, s.cache.sets[i]? = some ways → SetLaw i ways) ∧ WalkLaw s ∧
  (s.started = false → s.store.port = none)

/-- One link: at most four replies with the places held for a READ STORE and the refusals behind it, which are
held back only while it is unanswered; records, replies and a READ STORE only in UP; ABILITY frames only outside
it; an accepted word and a running timeout in UP (R149, R150, R153 to R157). -/
def LinkUnitLaw (l : Link) (s : State) : Prop :=
  (s.link l).replies.length + (s.link l).heldBack.length +
    (if l = .accessory ∧ readStoreOutstanding s = true then 1 else 0) ≤ 4 ∧
  ((s.link l).heldBack ≠ [] → l = .accessory ∧ readStoreOutstanding s = true) ∧
  ((s.link l).state ≠ .up → (s.link l).records = [] ∧ (s.link l).replies = [] ∧
    (s.link l).renegotiateDue = false ∧ (l = .accessory → readStoreOutstanding s = false)) ∧
  ((s.link l).state = .up → (s.link l).abilityWaiting = false ∧ (s.link l).sendDue = none ∧
    (s.link l).acceptedWord.isSome = true ∧ (s.link l).timeout.isSome = true)

/-- Both links are as chapter 9 says, at most one READ STORE waits or is unanswered (R149), the body link has a
record level exactly while it is UP (R156, R157), and both are SILENT until start-up has ended (R159). -/
def LinkLaw (s : State) : Prop :=
  (∀ l, LinkUnitLaw l s) ∧ s.store.readStoreWaiting.length ≤ 1 ∧
  (∀ r t, s.store.port = some ⟨.readStore r false, t⟩ → s.store.readStoreWaiting = []) ∧
  ((s.link .body).state = .up ↔ (s.link .body).recordLevel.isSome = true) ∧
  (s.started = false → ∀ l, (s.link l).state = .silent)

/-! ### What statements about commands share -/

/-- A request of a link is taken: start-up has ended, the link is UP, no REINITIALIZE waits for its restart
and the reply list has a place (R146, R148, R149, R195). -/
def Serves (l : Link) (s : State) : Prop :=
  s.started = true ∧ (s.link l).state = .up ∧ s.seq.reinit = .idle ∧ replyListFull l s = false

/-- The state in which a good frame that ends at `t` is a request: time has passed to `t`, the parser hunts
and the 250 ms timeout runs afresh (R147, R148). -/
def received (l : Link) (t : Instant) (s : State) : State :=
  { s with
    timing := { s.timing with timebase := laterOf t s.timing.timebase },
    links := s.links.set l { s.links.get l with
      parser := .hunting, timeout := some (addInterval (laterOf t s.timing.timebase) 250000) } }

/-- Authority lets a link's authority requests pass (R165). -/
def MayCommand (l : Link) (s : State) : Prop :=
  s.auth.conflict = false ∧ ∀ h, s.auth.holder = some h → h = l

/-- A link's words with some bits raised and level bits set, its line as R184 says (R180, R181, R184). -/
def raisedUnit (raised levels : EventWord) (u : EventUnit) : EventUnit :=
  { u with
    pending := u.pending ||| raised ||| levels,
    attention := decide ((u.pending ||| raised ||| levels) &&& u.enable ≠ 0) }

/-- From `s` to `t` the event unit has had bits raised on the body link and on the accessory link, every
level bit whose condition holds in `t` set, and nothing else (R180, R181, R184). -/
def EventsRaised (body accessory : EventWord) (s t : State) : Prop :=
  t.events = s.events.map fun w =>
    ⟨raisedUnit body (levelWord t) w.body, raisedUnit accessory (levelWord t) w.accessory⟩

/-- An event's bit when a condition holds. -/
def maskIf (b : Bool) (e : Event) : EventWord := if b then e.mask else 0

/-- An event's bit for the one link on which it is raised. -/
def maskOn (l k : Link) (e : Event) : EventWord := if l = k then e.mask else 0

/-- What makes a kind's active-table choice another one: its sector and generation, or that it is there (R62). -/
def tableTag (t : Option ActiveTable) : Option (BitVec 3 × Nat) := t.map fun x => (x.sector, x.generation)

/-- The cache after a scan of `s` that left `t`: of a kind whose choice has changed it holds no cell and keeps
only the queue entries being read, and of another kind it holds what it held (R62, R93). -/
def CacheFollowsScan (kind : TableKind) (s t : State) : Prop :=
  (tableTag (s.active kind) ≠ tableTag (chooseTable s.store.flash kind) →
    (∀ k : Key, k.kind = kind → isCached k t.cache = false) ∧
    (∀ e ∈ t.cache.demand ++ t.cache.prefetch, e.key.kind = kind → e.beingRead = true) ∧
    t.cache.walk.state ≠ .walking) ∧
  (tableTag (s.active kind) = tableTag (chooseTable s.store.flash kind) →
    ∀ k : Key, k.kind = kind → cachedCell k t.cache = cachedCell k s.cache)

/-- The results of a scan of the flash of `s` stand in `t`: verdicts, headers read, active tables, sector 0 with its
working description and map copy, and the cache (R10, R50, R58 to R62, R93). -/
def ScanStands (s t : State) : Prop :=
  let m := s.store.flash
  let d := descriptionAt m
  t.store.flash = m ∧ t.store.verdicts = scanVerdicts m ∧
  t.store.headers = tableSectors.map (fun n => some (headerAt m n)) ∧
  t.store.breathing = chooseTable m .breathing ∧ t.store.shading = chooseTable m .shading ∧
  t.store.sector0Valid = sector0Passes m ∧
  t.store.description = (if sector0Passes m then some d else none) ∧
  t.front.mapCopy = (if sector0Passes m then some ⟨d.maps, d.primeFocal, d.assumedIris⟩ else none) ∧
  CacheFollowsScan .breathing s t ∧ CacheFollowsScan .shading s t ∧
  (tableTag s.store.breathing = tableTag (chooseTable m .breathing) →
    tableTag s.store.shading = tableTag (chooseTable m .shading) → t.cache = s.cache)

/-- The velocity `v` of an axis whose valid samples are `before` and then `newest`: zero without another sample;
else from the sample nearest to one span before the newest, the older of two equally near, and zero within the
deadband (R39). -/
def VelocityFollowsRing (ms0 : MS0) (before : List Sample) (newest : Sample) (v : Option (Sample × Sample)) : Prop :=
  let gap := fun y : Sample => (instantDiff y.instant (subInterval newest.instant ms0.span)).natAbs
  (before = [] → v = none) ∧
  ∀ pre x post, before = pre ++ x :: post → (∀ y ∈ pre, gap x < gap y) → (∀ y ∈ post, gap x ≤ gap y) →
    v = if ((newest.count.toNat : Int) - x.count.toNat).natAbs ≤ ms0.deadband then none else some (x, newest)

/-- The count on the line from one sample to another, at an interval after the first, or after the second where
`start` is the second's: the term rounded, the sum inside 0 to 16 383 (R40, R41). -/
def OnLine (start x y : Sample) (interval : Int) (c : Count) : Prop :=
  (c.toNat : Int) = max 0 (min 16383 ((start.count.toNat : Int) +
    roundDiv (((y.count.toNat : Int) - x.count.toNat) * interval) (instantDiff y.instant x.instant).toNat))

/-- The count of a prediction `p` at `t` from the valid samples of a ring: extrapolated over at most the horizon
past the newest, interpolated inside the ring, or the oldest's with the target stale before it (R38, R40 to R42). -/
def CountFollowsRing (ms0 : MS0) (t : Instant) (valid : List Sample) (oldest newest : Sample) (p : AxisPrediction) :
    Prop :=
  (0 < instantDiff t newest.instant → p.stale = false ∧ (p.velocity = none → p.count = newest.count) ∧
    ∀ x y, p.velocity = some (x, y) →
      OnLine newest x y (min (instantDiff t newest.instant).toNat ms0.horizon : Nat) p.count) ∧
  (instantDiff t newest.instant ≤ 0 → 0 ≤ instantDiff t oldest.instant → p.stale = false ∧
    (∀ pre x post, valid = pre ++ x :: post → (∀ y ∈ pre, y.instant ≠ t) → x.instant = t → p.count = x.count) ∧
    ∀ pre x y post, valid = pre ++ x :: y :: post → (∀ z ∈ pre ++ [x], instantDiff z.instant t < 0) →
      (∀ z ∈ y :: post, 0 < instantDiff z.instant t) → OnLine x x y (instantDiff t x.instant) p.count) ∧
  (instantDiff t newest.instant ≤ 0 → instantDiff t oldest.instant < 0 → p.stale = true ∧ p.count = oldest.count)

/-- From `s` to `u` the prediction of a frame at `t` through a map copy has left each fitted axis's held-count
record and OUTSIDE_MAP, and AXIS_RANGE on both links when a predicted count lay outside its map (R12, R44, R46). -/
def PredictionNoted (ms0 : MS0) (t : Instant) (copy : MapCopy) (s u : State) : Prop :=
  let count := fun a => (predictAxis ms0 t (s.front.axes.get a) (s.engine.heldCounts.get a) (copy.maps.get a)).count
  let outside := fun a => s.fitted a && outsideOf (copy.maps.get a) (count a).toNat
  let raised := maskIf (outside .focus || outside .zoom || outside .iris) .axisRange
  (∀ a, u.engine.heldCounts.get a = if s.fitted a then some (count a) else s.engine.heldCounts.get a) ∧
  (∀ a, u.front.axes.get a =
    if s.fitted a then { s.front.axes.get a with outsideMap := outside a } else s.front.axes.get a) ∧
  u.front = { s.front with axes := u.front.axes } ∧ EventsRaised raised raised s u

/-- In `t` PEER_LINK_CHANGED has been raised on the link other than `l` and not on `l` (R156, R157). -/
def PeerTold (l : Link) (s t : State) : Prop :=
  s.events.isSome = true →
    (pendingWord t (otherLink l)).getLsbD Event.peerLinkChanged.bit = true ∧
    (pendingWord t l).getLsbD Event.peerLinkChanged.bit = (pendingWord s l).getLsbD Event.peerLinkChanged.bit

/-- The link and the instant of a command that is a frame other than ABILITY (R148, R149). -/
def requestOf : Instr → Option (Link × Instant)
  | .identify l t _ | .readStatus l t _ | .readPosition l t _ | .readEvents l t _ | .modifyEvents l t _
  | .setEventEnables l t _ | .renegotiate l t _ | .reinitialize l t _ | .frameFormat l t _ | .frameInfo l t _
  | .writeModeSet l t _ | .readModeSet l t _ | .setAnchor l t _ | .anchorHere l t _ | .setMark l t _
  | .deleteMark l t _ | .readMarks l t _ | .lockPath l t _ | .unlock l t _ | .cacheStatus l t _
  | .dumpCache l t _ | .loadPageBuffer l t _ | .programPage l t _ | .eraseSector l t _ | .rescanTables l t _
  | .readStore l t _ | .setReadProtection l t _ | .clearReadProtection l t _ | .unknownKindRequest l t _ _ =>
    some (l, t)
  | _ => none

/-- The requests that only read (R16, R101, R102, R134, R173, R177, R178, R182). -/
def readsOnly : Instr → Bool
  | .identify _ _ _ | .readStatus _ _ _ | .readPosition _ _ _ | .readEvents _ _ _ | .readModeSet _ _ _
  | .readMarks _ _ _ | .cacheStatus _ _ _ | .dumpCache _ _ _ => true
  | _ => false

/-- The commands that may change a byte of flash: the ends of the operations that erase or program, and the
resets that cut one off (R68, R72, R73, R77, R78, R83). -/
def writesFlash : Instr → Bool
  | .powerOn | .pinReset | .eraseComplete | .programComplete | .setReadProtectionComplete
  | .clearProtectionSectorErased => true
  | _ => false

/-- The commands that put blocks at their values after reset (R192, R196). -/
def restarts : Instr → Bool
  | .powerOn | .pinReset | .leaveReset _ | .reinitializeRestart => true
  | _ => false

/-- The commands that may carry a request of any kind (R147, R176; log 10, log 24). -/
def mayBeAnyRequest : Instr → Bool
  | .byteReceived _ _ _ | .unknownKindRequest _ _ _ _ => true
  | _ => false

end Sys2Proof.Machine
end

