-- ==== Sys2Proof/WellFormed.lean ====
section
/-! DEFINITION. The checks on a command's operands: what a frame of 9.2 can carry. -/

namespace Sys2Proof

/-- The frame kinds a master's request may have (R186). -/
def requestKinds : List Nat :=
  [0x10, 0x11, 0x12, 0x13, 0x14, 0x15, 0x16, 0x17, 0x20, 0x21, 0x22, 0x23] ++
  [0x30, 0x31, 0x32, 0x33, 0x34, 0x38, 0x39, 0x3A, 0x3B] ++
  [0x40, 0x41, 0x42, 0x43, 0x44, 0x45, 0x46]

/-- A payload's length is 0 to 240 (9.2). -/
def payloadFits (p : List Byte) : Bool := decide (p.length ≤ 240)

/-- A kind that is neither a request kind nor ABILITY (R149, R176, R186). -/
def kindUnknown (k : Byte) : Bool := !requestKinds.contains k.toNat && k.toNat != 0x01

/-- A command a sender can send. The meanings of `exec` are total: an ill-formed command has one too. -/
def Instr.wellFormed : Instr → Bool
  | .ability _ _ p | .identify _ _ p | .readStatus _ _ p | .readPosition _ _ p
  | .readEvents _ _ p | .modifyEvents _ _ p | .setEventEnables _ _ p | .renegotiate _ _ p
  | .reinitialize _ _ p | .frameFormat _ _ p | .frameInfo _ _ p | .writeModeSet _ _ p
  | .readModeSet _ _ p | .setAnchor _ _ p | .anchorHere _ _ p | .setMark _ _ p
  | .deleteMark _ _ p | .readMarks _ _ p | .lockPath _ _ p | .unlock _ _ p
  | .cacheStatus _ _ p | .dumpCache _ _ p | .loadPageBuffer _ _ p | .programPage _ _ p
  | .eraseSector _ _ p | .rescanTables _ _ p | .readStore _ _ p | .setReadProtection _ _ p
  | .clearReadProtection _ _ p => payloadFits p
  | .unknownKindRequest _ _ k p => kindUnknown k && payloadFits p
  | .powerOn | .pinReset | .leaveReset _ | .cacheRamCheckDone _ | .selfTestEncoderAttempt
  | .selfTestEncoderReadDone _ _ | .markerAreaReadDone | .tableScanEnd | .samplingInstant
  | .encoderReadComplete _ _ | .syncEdge _ | .streamTimeout | .computationStart | .cutoff
  | .dueInstant | .portReadStart | .fillComplete | .walkReadComplete | .readStoreReadEnd
  | .storeWorkBegins | .eraseComplete | .programComplete | .setReadProtectionComplete
  | .clearProtectionSectorErased | .frameAbandoned _ _ _ | .frameGapTimeout _
  | .abilitySendDue _ | .abilityTimeout _ | .linkUpTimeout _ | .transmitEnd _
  | .periodicReportDue | .reinitializeRestart | .renegotiateLinkRestart _
  | .byteReceived _ _ _ => true

end Sys2Proof
end

