-- ==== Sys2Proof/Certificates/Slice0/Obligations.lean ====
section
/-! DEFINITION. The statements about the model for the provers. -/

section

open Sys2Proof Sys2Proof.Machine

/-! ### The queue, time and reset -/

/-- A step takes the command at the front of the queue and acts on the state with the queue's rest. -/
def Obligations.StepRunsFrontCommand : Prop :=
  ∀ (c : Instr) (rest : List Instr) (s : State),
    step { s with pending := c :: rest } = exec c { s with pending := rest }

/-- On an empty queue a step is one microsecond of the timebase, which stands while the part is held in
reset; nothing else changes. The model's choice (log 1). -/
def Obligations.IdleStepPassesOneMicrosecond : Prop :=
  ∀ s : State, s.pending = [] →
    step s = .next (if s.isHeld then s
      else { s with timing := { s.timing with timebase := s.timing.timebase + 1 } })

/-- Every command answers a next state, whatever the state, and leaves the queue alone. That a command has an
answer even in a state where its event cannot occur, or with operands no sender sends, is the model's choice (log 3
and log 24). -/
def Obligations.NoCommandStops : Prop :=
  ∀ (c : Instr) (s : State), ∃ t, exec c s = .next t ∧ t.pending = s.pending

/-- The state right after reset: every block at its value after reset, read protection clear until the marker area
is read (log 18), the part held by the supply monitor with cause POWER and the straps low, so that zoom and iris are
ABSENT (log 4), the flash erased (log 5), and the model's own counter at 0 (log 7); what these logs name is the
model's choice. -/
def Obligations.ResetValues : Prop :=
  let s := State.reset
  s.seq = ⟨.held true, ⟨false, false, false, false, false, false, false, false, false⟩, .power, 0, .idle⟩ ∧
  (s.front.axes.focus = ⟨.seeking, 0, 0, [], none, false, none⟩ ∧
    s.front.axes.zoom = ⟨.absent, 0, 0, [], none, false, none⟩ ∧
    s.front.axes.iris = ⟨.absent, 0, 0, [], none, false, none⟩ ∧ s.front.mapCopy = none ∧
    s.front.nextSampling = none) ∧
  s.timing = ⟨0, .noStream, none, 0, 0, ⟨14000, 0, 100000, 4000, 10000, 0⟩, 0, []⟩ ∧
  ((∀ a, flashRead s.store.flash a = 0xFF) ∧ s.store.pageBuffer = List.replicate 256 0xFF#8 ∧
    s.store.op = none ∧ s.store.lastCompletion = none ∧ s.store.readProtection = false ∧ s.store.port = none ∧
    s.store.readStoreWaiting = [] ∧ s.store.sector0Valid = false ∧ s.store.description = none ∧
    s.store.breathing = none ∧ s.store.shading = none ∧ s.store.verdicts = List.replicate 7 .unscanned ∧
    s.store.headers = List.replicate 6 none) ∧
  (s.cache.sets.length = 64 ∧ (∀ ways ∈ s.cache.sets, ways = [⟨none, 0⟩, ⟨none, 1⟩, ⟨none, 2⟩, ⟨none, 3⟩]) ∧
    s.cache.demand = [] ∧ s.cache.prefetch = [] ∧ s.cache.walk = ⟨.idle, none, [], 0, 0, 0⟩ ∧
    s.cache.disabled = false) ∧
  s.engine = ⟨.unconfigured, ⟨none, none⟩, ⟨none, none⟩, ⟨none, none⟩, ⟨none, none⟩,
    ⟨none, none, none, false⟩, ⟨none, none, none⟩, none, 0, none⟩ ∧
  (∀ l, s.link l = ⟨.silent, 0, none, none, none, none, .hunting, none, none, false, [], [], [], none, false⟩) ∧
  s.auth = ⟨none, false, 0, 0, []⟩ ∧ s.events = none ∧ s.free = 0 ∧ s.pending = []

/-- Every law holds at reset. -/
def Obligations.LawsHoldAtReset : Prop :=
  let s := State.reset
  StoreLaw s ∧ EventLaw s ∧ EngineLaw s ∧ AuthorityLaw s ∧ MarksLaw s ∧ PowerLaw s ∧ QueueLaw s ∧ FrameLaw s ∧
  StreamLaw s ∧ AxisLaw s ∧ SettingsLaw s ∧ CacheLaw s ∧ LinkLaw s

/-! ### Laws every step keeps -/

/-- Every step keeps the flash array in canonical form and the store's lists at their lengths. -/
def Obligations.StepKeepsStoreLaw : Prop := ∀ s t, StoreLaw s → step s = .next t → StoreLaw t

/-- Every step leaves each level bit set while its condition holds and each attention line as the two words
say. -/
def Obligations.StepKeepsEventLaw : Prop := ∀ s t, EventLaw s → step s = .next t → EventLaw t

/-- Every step keeps the engine's state in agreement with its conditions. -/
def Obligations.StepKeepsEngineLaw : Prop := ∀ s t, EngineLaw s → step s = .next t → EngineLaw t

/-- At most one link holds authority, only while it is UP, after every step. -/
def Obligations.StepKeepsAuthorityLaw : Prop := ∀ s t, AuthorityLaw s → step s = .next t → AuthorityLaw t

/-- Every step keeps the marks list in order with distinct ids. -/
def Obligations.StepKeepsMarksLaw : Prop := ∀ s t, MarksLaw s → step s = .next t → MarksLaw t

/-- Every step keeps every focus power the part holds at most 20 000 mD. -/
def Obligations.StepKeepsPowerLaw : Prop := ∀ s t, PowerLaw s → step s = .next t → PowerLaw t

/-- The fill queue keeps its three limits through every step. -/
def Obligations.StepKeepsQueueLaw : Prop := ∀ s t, QueueLaw s → step s = .next t → QueueLaw t

/-- The pending frame list keeps its length, its order of progress and its order of due instants. -/
def Obligations.StepKeepsFrameLaw : Prop := ∀ s t, FrameLaw s → step s = .next t → FrameLaw t

/-- The stream's state, period and last accepted sync stay in agreement. -/
def Obligations.StepKeepsStreamLaw : Prop := ∀ s t, StreamLaw s → step s = .next t → StreamLaw t

/-- Each axis's state, runs and ring stay in agreement. -/
def Obligations.StepKeepsAxisLaw : Prop := ∀ s t, AxisLaw s → step s = .next t → AxisLaw t

/-- Every setting stays inside its range. -/
def Obligations.StepKeepsSettingsLaw : Prop := ∀ s t, SettingsLaw s → step s = .next t → SettingsLaw t

/-- No cache set ever holds more than three locked entries or one key twice, the lock walk's counts add up, and the
port reads for none of its sources before start-up has ended. -/
def Obligations.StepKeepsCacheLaw : Prop := ∀ s t, CacheLaw s → step s = .next t → CacheLaw t

/-- Reply lists stay within their bound, refusals are held back only behind an unanswered READ STORE, and records,
replies and ABILITY frames wait only in the link states that send them. The engine's law rules out states in which a
record leaves with the body link not UP. -/
def Obligations.StepKeepsLinkLaw : Prop := ∀ s t, EngineLaw s → LinkLaw s → step s = .next t → LinkLaw t

/-! ### Starts -/

/-- POWER_ON and PIN_RESET hold the part in reset with every block at its value after reset; the flash bytes outside
those an operation in flight was acting on keep their values, and all do when its work has not begun (log 6). LEAVE_RESET
starts the timebase from 0, samples the straps, gives the cause and the event words, and makes both attention lines
active by TABLE_MISSING. The model's choices: read protection is clear until the marker area is read (log 18), a pin
reset under a supply-monitor hold leaves the cause POWER (log 29), and the axes of a held part follow the straps last
sampled (log 4). -/
def Obligations.ResetsAndTheirEnd : Prop :=
  (∀ (c : Instr) (bySupply : Bool) (s : State), StoreLaw s →
     (c = .powerOn ∧ bySupply = true) ∨ (c = .pinReset ∧ bySupply = decide (s.seq.phase = .held true)) →
     ∃ t, exec c s = .next t ∧ t.seq = { s.seq with phase := .held bySupply, reinit := .idle } ∧
       t.front = .reset s.seq.straps ∧ t.timing = .reset 0 ∧
       t.store = .reset t.store.flash (List.replicate 256 0xFF#8) false ∧ t.cache = .reset false ∧
       t.engine = .reset ∧ t.links = ⟨.reset, .reset⟩ ∧ t.auth = .reset ∧ t.events = none ∧
       ((∀ o, s.store.op = some o → o.working = none) → t.store.flash = s.store.flash) ∧
       ∀ a, (∀ o r, s.store.op = some o → cutOffRange o = some r → a < r.1 ∨ r.1 + r.2 ≤ a) →
         flashRead t.store.flash a = flashRead s.store.flash a) ∧
  (∀ (bySupply : Bool) (straps : Straps) (s : State), s.seq.phase = .held bySupply →
     ∃ t, exec (.leaveReset straps) s = .next t ∧
       t.seq = ⟨.cacheRam 0, straps, if bySupply then .power else .pin, 0, .idle⟩ ∧
       t.front = .reset straps ∧ t.timing = .reset 0 ∧
       t.store = .reset s.store.flash (List.replicate 256 0xFF#8) false ∧ t.cache = .reset false ∧
       t.engine = .reset ∧ t.links = ⟨.reset, .reset⟩ ∧ t.auth = .reset ∧
       ∀ l, pendingWord t l = Event.mask .tableMissing ∧ enableWord t l = 0xFFFF ∧
         attentionLevel t l = some (!(match l with
           | .body => straps.bodyAttention
           | .accessory => straps.accessoryAttention)))

/-- The self-test's steps up to the scan: the cache RAM check, the encoder attempts and reads, the marker
read. -/
def Obligations.SelfTestSteps : Prop :=
  (∀ since ok (s : State), s.seq.phase = .cacheRam since →
    ∃ t, exec (.cacheRamCheckDone ok) s = .next t ∧ t.now = laterOf (addInterval since 2000) s.now ∧
      t.seq.failMask = s.seq.failMask ||| (if ok then 0 else 1) ∧ t.cache = .reset (!ok) ∧
      t.seq.phase = .encoders t.now
        ⟨.reading 1, if s.seq.straps.zoomFitted then .reading 1 else .notRead,
          if s.seq.straps.irisFitted then .reading 1 else .notRead⟩ ∧
      t.front = s.front ∧ t.store = s.store ∧ t.engine = s.engine ∧ t.links = s.links ∧ t.auth = s.auth) ∧
  (∀ attempt tests (s : State), s.seq.phase = .encoders attempt tests →
    (∀ a n, tests.get a ≠ .reading n) → (∃ a n, tests.get a = .waiting n) →
    ∃ t, exec .selfTestEncoderAttempt s = .next t ∧ t.now = laterOf (addInterval attempt 500) s.now ∧
      (∃ tests', t.seq = { s.seq with phase := .encoders (addInterval attempt 500) tests' } ∧
        ∀ a, (∀ n, tests.get a = .waiting n → tests'.get a = .reading (n + 1)) ∧
          ((∀ n, tests.get a ≠ .waiting n) → tests'.get a = tests.get a)) ∧
      t.front = s.front ∧ t.store = s.store ∧ t.cache = s.cache ∧ t.links = s.links) ∧
  (∀ attempt tests a n answer (s : State), s.seq.phase = .encoders attempt tests → tests.get a = .reading n →
    let tests' := tests.set a (if answerValid answer then .passed else if n < 3 then .waiting n else .failed)
    ∃ t, exec (.selfTestEncoderReadDone a answer) s = .next t ∧ t.front = s.front ∧
      t.now = laterOf (addInterval attempt 20) s.now ∧
      ((∃ b m, tests'.get b = .reading m ∨ tests'.get b = .waiting m) →
        t.seq = { s.seq with phase := .encoders attempt tests' }) ∧
      ((∀ b m, tests'.get b ≠ .reading m ∧ tests'.get b ≠ .waiting m) →
        t.seq.phase = .marker false t.now ∧
        t.seq.failMask = s.seq.failMask ||| (if tests'.focus = .failed then 4 else 0) |||
          (if tests'.zoom = .failed then 8 else 0) ||| (if tests'.iris = .failed then 16 else 0))) ∧
  (∀ reinit since (s : State), s.seq.phase = .marker reinit since →
    ∃ t, exec .markerAreaReadDone s = .next t ∧ t.now = laterOf (addInterval since 40) s.now ∧
      t.seq = { s.seq with phase := .scan reinit t.now } ∧ t.store.flash = s.store.flash ∧
      (t.store.readProtection = true ↔ ∃ i < 16, flashRead s.store.flash (458752 + i) ≠ 0xFF) ∧
      t.cache = s.cache ∧ t.engine = s.engine ∧ t.links = s.links)

/-- A scan's results take effect together when it ends: verdicts, headers read, active tables, the working description,
the front end's map copy and the cache. The scan of a start ends start-up with the anchor at the
default anchor, sampling begun at that instant and both links' 10 ms intervals running. RESCAN TABLES completes
with the store IDLE and STORE_DONE raised, and neither the anchor nor the fail mask changes. A sector's verdict is the
first check of R57 that fails. A kind's table is the VALID one of that kind with the highest generation, in the lowest
such sector (R58). Sector 0 is VALID by its CRC alone (R50), and the working description takes its fields, each
default clamped and each map ended before the first count that does not rise (R53, R54, R191). -/
def Obligations.ScansTakeEffect : Prop :=
  (∀ reinit since (s : State), s.seq.phase = .scan reinit since →
     let m := s.store.flash
     ∃ t, exec .tableScanEnd s = .next t ∧ t.now = laterOf (addInterval since 21000) s.now ∧
       t.seq.phase = .finished ∧ ScanStands s t ∧
       t.auth = { s.auth with anchor := if sector0Passes m then (descriptionAt m).defaultAnchor else 0 } ∧
       t.front.nextSampling = some t.now ∧
       t.seq.failMask = (if reinit then s.seq.failMask else
         s.seq.failMask ||| (if sector0Passes m then 0 else 2) |||
           (if (chooseTable m .breathing).isSome then 0 else 32) |||
           (if (chooseTable m .shading).isSome then 0 else 64)) ∧
       (s.engine = .reset → t.engine.state = .unconfigured) ∧
       ∀ l, (t.link l).sendDue = some (addInterval t.now 10000) ∧
         (s.link l = .reset → s.seq.reinit = .idle →
           ∃ p, (t.link l).sending = some (⟨0x01, p⟩, t.now))) ∧
  (∀ n p since (s : State), s.seq.phase = .finished → s.engine.state.runs = false →
     s.store.op = some ⟨.rescanTables, n, p, some since⟩ →
     ∃ t, exec .tableScanEnd s = .next t ∧ t.now = laterOf (addInterval since 21000) s.now ∧
       t.seq = s.seq ∧ t.auth = s.auth ∧ t.links = s.links ∧ t.store.op = none ∧
       t.store.lastCompletion = some ⟨.rescanTables, n, p, .done⟩ ∧
       t.store.readProtection = s.store.readProtection ∧ ScanStands s t ∧
       EventsRaised (Event.mask .storeDone) (Event.mask .storeDone) s t) ∧
  (∀ (m : List Host.Cell) (n : BitVec 3),
     let b := 65536 * n.toNat
     let kind := (flashRead m (b + 2)).toNat
     let generation := flash16 m (b + 3)
     let nf := (flashRead m (b + 9)).toNat
     let nz := (flashRead m (b + 10)).toNat
     let ni := if kind = 0 then 1 else (flashRead m (b + 11)).toNat
     let knots := fun first count => (List.range count).map fun i => flash16 m (b + first + 2 * i)
     let first := if kind = 0 then 11 else 14
     let focus := knots first nf
     let zoom := knots (first + 2 * nf) nz
     let iris := if kind = 0 then [0] else knots (first + 2 * nf + 2 * nz) ni
     let length := first + 2 * nf + 2 * nz + (if kind = 0 then 0 else 2 * ni) +
       nf * nz * ni * (if kind = 0 then 8 else 18)
     sectorVerdict m n =
       (if generation = 0 ∨ generation = 65535 then .noGeneration
       else if 1 < kind then .badKind
       else if ¬(2 ≤ nf ∧ nf ≤ 16 ∧ 1 ≤ nz ∧ nz ≤ 12 ∧ 1 ≤ ni ∧ ni ≤ 10 ∧ focus.Pairwise (fun x y => x < y) ∧
         zoom.Pairwise (fun x y => x < y) ∧ iris.Pairwise (fun x y => x < y)) then .badKnots
       else if flash32 m (b + 5) ≠ length then .lengthMismatch
       else if crc16 (flashBytes m (b + 2) (length - 2)) ≠ BitVec.ofNat 16 (flash16 m b) then .crcFail
       else .valid) ∧
     ∀ k : TableKind, kind = k.code → tableAt m n k = ⟨n, generation, focus, zoom, iris,
       if kind = 0 then 0 else max 5000 (min 40000 (flash16 m (b + 12)))⟩) ∧
  (∀ (m : List Host.Cell) (k : TableKind),
     let qualifies := fun n : BitVec 3 => n ≠ 0 ∧ n ≠ 7 ∧ sectorVerdict m n = .valid ∧
       (flashRead m (65536 * n.toNat + 2)).toNat = k.code
     let generation := fun n : BitVec 3 => flash16 m (65536 * n.toNat + 3)
     ((∀ n, ¬qualifies n) → chooseTable m k = none) ∧
     ∀ n, qualifies n → (∀ j, qualifies j → generation j < generation n ∨
       (generation j = generation n ∧ n.toNat ≤ j.toNat)) → chooseTable m k = some (tableAt m n k)) ∧
  (∀ m : List Host.Cell,
     let d := descriptionAt m
     (sector0Passes m = true ↔ crc16 (flashBytes m 2 433) = BitVec.ofNat 16 (flash16 m 0)) ∧
     scanVerdicts m = (if sector0Passes m then .valid else .crcFail) ::
       ([1, 2, 3, 4, 5, 6] : List (BitVec 3)).map (sectorVerdict m) ∧
     d.model = (flashBytes m 2 24).takeWhile (fun b => b != 0) ∧ d.serial = flash32 m 26 ∧
     d.defaultAnchor = min 20000 (flash16 m 429) ∧ d.primeFocal = max 1 (min 65534 (flash16 m 431)) ∧
     d.assumedIris = min 200 (flash16 m 433) ∧
     ∀ a : Axis,
       let base := match a with | .focus => 30 | .zoom => 163 | .iris => 296
       let stored : List Breakpoint := (List.range (max 2 (min 33 (flashRead m base).toNat))).map fun i =>
         ⟨flash16 m (base + 1 + 4 * i), flash16 m (base + 3 + 4 * i)⟩
       let kept := (d.maps.get a).first :: (d.maps.get a).rest
       kept <+: stored ∧ kept.Pairwise (fun x y => x.count < y.count) ∧
       ∀ x y, kept.getLast? = some x → stored[kept.length]? = some y → y.count ≤ x.count)

/-! ### Encoder front end -/

/-- SAMPLING_INSTANT starts one read on the line of every fitted axis and sets the next instant 500 µs on. -/
def Obligations.SamplingStartsReads : Prop :=
  ∀ (i : Instant) (s : State), s.front.nextSampling = some i → (∀ a, (s.front.axes.get a).reading = none) →
    ∃ t, exec .samplingInstant s = .next t ∧ t.timing = { s.timing with timebase := laterOf i s.now } ∧
      t.front.nextSampling = some (addInterval i 500) ∧ t.front.mapCopy = s.front.mapCopy ∧
      (∀ a, t.front.axes.get a =
        { s.front.axes.get a with reading := if s.fitted a then some i else none }) ∧
      t.seq = s.seq ∧ t.store = s.store ∧ t.cache = s.cache ∧ t.engine = s.engine ∧ t.links = s.links ∧
      t.auth = s.auth

/-- ENCODER_READ_COMPLETE files the sample of R4 and R5 at the newest position of its ring: valid when the
error bit, bit 1 of the answer, is clear and the set bits among the count, bits 15 to 2, and the parity bit,
bit 0, are even in number; the count of a valid sample reversed when the sense strap was high; an invalid
sample with count 0. -/
def Obligations.EncoderAnswerIsJudgedAndFiled : Prop :=
  ∀ (a : Axis) (answer : BitVec 16) (i : Instant) (s : State), (s.front.axes.get a).reading = some i →
    ∃ t x, exec (.encoderReadComplete a answer) s = .next t ∧
      t.now = laterOf (addInterval i 20) s.now ∧ (t.front.axes.get a).reading = none ∧
      (t.front.axes.get a).ring =
        ((s.front.axes.get a).ring ++ [x]).drop ((s.front.axes.get a).ring.length + 1 - 32) ∧
      x.instant = i ∧
      (x.valid = true ↔ answer.getLsbD 1 = false ∧
        ((List.range 16).countP fun n => n != 1 && answer.getLsbD n) % 2 = 0) ∧
      (x.valid = true → x.count.toNat =
        if senseHigh s.seq.straps a then 16383 - answer.toNat / 4 else answer.toNat / 4) ∧
      (x.valid = false → x.count = 0) ∧
      (answer = 0xFFFF → x.valid = false) ∧
      (∀ b, b ≠ a → t.front.axes.get b = s.front.axes.get b) ∧
      t.store = s.store ∧ t.cache = s.cache ∧ t.engine = s.engine ∧ t.links = s.links ∧ t.auth = s.auth

/-- A filed sample moves its axis's state and runs as the table of R8 gives. A valid one rewrites the latest valid
sample record with its instant, its count and its value through the map copy, none without one; its conversion gives
OUTSIDE_MAP, and raises AXIS_RANGE on both links when the count lies outside the map. An invalid one leaves the
record and OUTSIDE_MAP, and raises nothing. -/
def Obligations.SampleMovesAxisState : Prop :=
  ∀ (a : Axis) (answer : BitVec 16) (i : Instant) (s : State), AxisLaw s →
    (s.front.axes.get a).reading = some i →
    let u := s.front.axes.get a
    let c : Count := BitVec.ofNat 14
      (if senseHigh s.seq.straps a then 16383 - answer.toNat / 4 else answer.toNat / 4)
    ∃ t, exec (.encoderReadComplete a answer) s = .next t ∧
      (answerValid answer = true →
        (s.front.mapCopy = none → (t.front.axes.get a).latest = some ⟨i, c, none⟩ ∧
          (t.front.axes.get a).outsideMap = u.outsideMap ∧ EventsRaised 0 0 s t) ∧
        (∀ m, s.front.mapCopy = some m →
          let raised := maskIf (outsideOf (m.maps.get a) c.toNat) .axisRange
          (t.front.axes.get a).latest = some ⟨i, c, some (convert a (m.maps.get a) c.toNat)⟩ ∧
          (t.front.axes.get a).outsideMap = outsideOf (m.maps.get a) c.toNat ∧ EventsRaised raised raised s t) ∧
        (u.state = .lost ∧ u.validRun = 0 →
          (t.front.axes.get a).state = .lost ∧ (t.front.axes.get a).validRun = 1) ∧
        (u.state ≠ .lost ∨ u.validRun = 1 →
          (t.front.axes.get a).state = .live ∧ (t.front.axes.get a).invalidRun = 0 ∧
          (t.front.axes.get a).validRun = 0)) ∧
      (answerValid answer = false →
        (t.front.axes.get a).latest = u.latest ∧ (t.front.axes.get a).outsideMap = u.outsideMap ∧
        EventsRaised 0 0 s t ∧
        (u.state = .live → (t.front.axes.get a).state = .stale ∧ (t.front.axes.get a).invalidRun = 1) ∧
        ((u.state = .seeking ∨ u.state = .stale) ∧ u.invalidRun < 7 →
          (t.front.axes.get a).state = u.state ∧ (t.front.axes.get a).invalidRun = u.invalidRun + 1) ∧
        (((u.state = .seeking ∨ u.state = .stale) ∧ u.invalidRun = 7) ∨ u.state = .lost →
          (t.front.axes.get a).state = .lost ∧ (t.front.axes.get a).invalidRun = 8 ∧
          (t.front.axes.get a).validRun = 0))

/-- A count converts along the segment that holds it, to the first or last value outside the map, and always
into the axis's unit range (R11, R12; the clamp of end values is log 23). The predictor holds a SEEKING or LOST axis
at its held-count record, else its latest valid sample, else its map's first count, and takes a LIVE or STALE axis's
velocity and count from the valid samples of its ring (R37 to R43). A frame's prediction converts each fitted axis's
count, gives an ABSENT axis its default, says whether an axis was held or its target stale, and gives the focus
direction of travel, whose values are clamped before they are compared, the model's choice (R45 to R47, log 23). -/
def Obligations.ConversionFollowsTheMap : Prop :=
  (∀ a m c, convert a m c ≤ (match a with | .focus => 20000 | .zoom => 65534 | .iris => 200)) ∧
  (∀ m c, 1 ≤ convert .zoom m c) ∧
  (∀ (a : Axis) (m : AxisMap) (before rest : List Breakpoint) (x y : Breakpoint) (c : Nat),
    (m.first :: m.rest).Pairwise (fun p q => p.count < q.count) →
    m.first :: m.rest = before ++ x :: y :: rest → x.count < c → c ≤ y.count →
    outsideOf m c = false ∧
    convert a m c = unitClamp a (x.value +
      roundDiv (((y.value : Int) - x.value) * ((c : Int) - x.count)) (y.count - x.count))) ∧
  (∀ (a : Axis) (m : AxisMap), (m.first :: m.rest).Pairwise (fun p q => p.count < q.count) →
    outsideOf m m.first.count = false ∧ convert a m m.first.count = unitClamp a m.first.value) ∧
  (∀ (a : Axis) (m : AxisMap) (c : Nat), c < m.first.count →
    outsideOf m c = true ∧ convert a m c = unitClamp a m.first.value) ∧
  (∀ (a : Axis) (m : AxisMap) (before : List Breakpoint) (y : Breakpoint) (c : Nat),
    (m.first :: m.rest).Pairwise (fun p q => p.count < q.count) →
    m.first :: m.rest = before ++ [y] → y.count < c →
    outsideOf m c = true ∧ convert a m c = unitClamp a y.value) ∧
  (∀ (ms0 : MS0) (t : Instant) (u : AxisUnit) (record : Option Count) (m : AxisMap),
    let p := predictAxis ms0 t u record m
    let valid := u.ring.filter Sample.valid
    (u.state = .seeking ∨ u.state = .lost → p.held = true ∧ p.stale = false ∧ p.velocity = none ∧
      (∀ c, record = some c → p.count = c) ∧
      (∀ r, record = none → u.latest = some r → p.count = r.count) ∧
      (record = none → u.latest = none → p.count.toNat = min 16383 m.first.count)) ∧
    (u.state = .live ∨ u.state = .stale → ∀ before oldest newest, valid.head? = some oldest →
      valid = before ++ [newest] →
      p.held = false ∧ VelocityFollowsRing ms0 before newest p.velocity ∧
        CountFollowsRing ms0 t valid oldest newest p)) ∧
  (∀ (ms0 : MS0) (t : Instant) (copy : MapCopy) (s : State),
    let f := predictFrame ms0 t copy s
    let p := fun a => predictAxis ms0 t (s.front.axes.get a) (s.engine.heldCounts.get a) (copy.maps.get a)
    let units := fun (a : Axis) (default : Nat) =>
      if s.fitted a then convert a (copy.maps.get a) (p a).count.toNat else default
    f.position = ⟨(p .focus).count, convert .focus copy.maps.focus (p .focus).count.toNat,
      units .zoom copy.primeFocal, units .iris copy.assumedIris⟩ ∧
    (f.axisHeld = true ↔ ∃ a, s.fitted a = true ∧ (p a).held = true) ∧
    (f.targetStale = true ↔ ∃ a, s.fitted a = true ∧ (p a).stale = true) ∧
    ((p .focus).velocity = none → f.direction = .still) ∧
    (∀ x y, (p .focus).velocity = some (x, y) →
      let v := fun z : Sample => convert .focus copy.maps.focus z.count.toNat
      f.direction = if v x < v y then .rising else if v y < v x then .falling else .still))

/-- The focus distance of a power is its reciprocal in mm, rounded, or 65 535 below 16 mD, and READ POSITION,
the position report and the correction record carry it for the power each carries. -/
def Obligations.FocusDistanceIsReciprocal : Prop :=
  (∀ p, p < 16 → focusDistance p = 65535) ∧
  (∀ p, 16 ≤ p → focusDistance p = (2 * 1000000 + p) / (2 * p)) ∧
  (∀ p, 16 ≤ p → p ≤ 20000 → 50 ≤ focusDistance p ∧ focusDistance p ≤ 62500) ∧
  (∀ (s : State) p, unitsValue s .focus = some p →
    (positionFields s).drop 34 = le16 (focusDistance p)) ∧
  (∀ (s : State) n c p f i, ((reportPayload s n c (some p) f i).drop 4).take 4 = le16 p ++ le16 (focusDistance p)) ∧
  (∀ (e : Entry) (d : Delivered), ((recordPayload e d).drop 7).take 4 =
    le16 d.position.power ++ le16 (focusDistance d.position.power))

/-! ### Frame timing -/

/-- What SYNC_EDGE does to the stream: a glitch has no effect, an edge in NO_STREAM or at more than one second
begins an acquisition, any other locks the stream with the interval as its period. An engine in STANDBY then enters
RUNNING or PATTERN, by the selection in force, when the body link is UP and the store IDLE: with the previous values
none and the FIRST marker set, or with the pattern counter 0; the sync itself is skipped. The held-count records, and
on entry to PATTERN the previous values, are kept, the model's choice beside R129 (log 34). An engine that does not run
otherwise stays as it is. -/
def Obligations.SyncEdgeIsMeasured : Prop :=
  ∀ (t : Instant) (s : State), s.isHeld = false → EngineLaw s →
    let n := laterOf t s.now
    (∀ i, s.timing.stream ≠ .noStream → s.timing.lastSync = some i → instantDiff n i < 2000 →
      exec (.syncEdge t) s = .next (settle { s with timing := { s.timing with timebase := n } })) ∧
    (s.timing.stream = .noStream ∨
        (∃ i, s.timing.lastSync = some i ∧ 1000000 < instantDiff n i) →
      ∃ u, exec (.syncEdge t) s = .next u ∧
        u.timing = { s.timing with timebase := n, stream := .acquiring, lastSync := some n, period := 0,
                                   frameNumber := 0, skip := 1, frames := [] } ∧
        u.engine.state.runs = false ∧
        EventsRaised (Event.mask .streamAcquired ||| maskIf (anyStaged s.engine) .modeApplied)
          (Event.mask .streamAcquired ||| maskIf (anyStaged s.engine) .modeApplied) s u ∧
        u.seq = s.seq ∧ u.front = s.front ∧ u.store = s.store ∧ u.cache = s.cache ∧ u.links = s.links ∧
        u.auth = s.auth) ∧
    (∀ i, s.timing.stream ≠ .noStream → s.timing.lastSync = some i → 2000 ≤ instantDiff n i →
      instantDiff n i ≤ 1000000 →
      ∃ u, exec (.syncEdge t) s = .next u ∧ u.now = n ∧ u.timing.stream = .locked ∧
        u.timing.lastSync = some n ∧ (u.timing.period : Int) = instantDiff n i ∧
        u.timing.frameNumber = s.timing.frameNumber + 1 ∧ u.timing.format = s.timing.format ∧
        (s.engine.state.runs = false → u.timing.frames = [] ∧ u.timing.skip = min 255 (s.timing.skip + 1) ∧
          let ready := s.engine.state = .standby ∧ (s.link .body).state = .up ∧ s.store.op = none
          (ready → patternSelected s.engine = false → u.engine = { s.engine with
            state := .running, previous := ⟨none, none, none, true⟩, reportDue := none }) ∧
          (ready → patternSelected s.engine = true → u.engine = { s.engine with
            state := .pattern, patternCounter := 0, reportDue := none }) ∧
          (¬ready → u.engine = s.engine)) ∧
        u.seq = s.seq ∧ u.front = s.front ∧ u.store = s.store ∧ u.cache = s.cache ∧ u.links = s.links ∧
        u.auth = s.auth)

/-- An accepted sync in RUNNING or PATTERN appends a WAITING entry with the instants of R27 to R29, from the
mode sets as they stand after the staged sets have been counted, and a full list counts it as skipped. -/
def Obligations.SyncMakesTheEntry : Prop :=
  ∀ (t i : Instant) (s : State) (m0 : MS0) (m3 : MS3), s.isHeld = false → EngineLaw s →
    s.engine.state.runs = true → s.timing.lastSync = some i →
    let n := laterOf t s.now
    2000 ≤ instantDiff n i → instantDiff n i ≤ 1000000 →
    s.engine.ms0.onSync.inForce = some m0 → s.engine.ms3.onSync.inForce = some m3 →
    (s.timing.frames.length < 8 →
      ∃ u e, exec (.syncEdge t) s = .next u ∧ u.timing.frames.length = s.timing.frames.length + 1 ∧
        u.timing.frames.getLast? = some e ∧ u.timing.skip = 0 ∧
        e.frameNumber = s.timing.frameNumber + 1 ∧ e.skipped = s.timing.skip ∧ e.sync = n ∧
        e.format = s.timing.format ∧ e.progress = .waiting ∧
        e.target = addInterval n ((s.timing.format.readout + s.timing.format.exposure) / 2) ∧
        e.due = (match s.timing.frames.getLast? with
          | none => addInterval n s.timing.format.dueOffset
          | some x => laterOf (addInterval n s.timing.format.dueOffset) x.due) ∧
        e.compute = laterOf n (subInterval e.due (max m0.lead (m3.guard + 100))) ∧
        e.cutoff = subInterval e.due m3.guard) ∧
    (s.timing.frames.length = 8 →
      ∃ u, exec (.syncEdge t) s = .next u ∧ u.timing.frames.length = 8 ∧
        u.timing.skip = min 255 (s.timing.skip + 1))

/-- STREAM_TIMEOUT at its armed instant: NO_STREAM, period 0, STREAM_LOST on both links, the engine out of
RUNNING and PATTERN with the list emptied; the last accepted sync and the frame number stay. -/
def Obligations.StreamTimeoutEndsTheStream : Prop :=
  ∀ (i : Instant) (s : State), EngineLaw s → s.timing.stream ≠ .noStream → s.timing.lastSync = some i →
    let armed := addInterval i (if s.timing.stream = .locked then 2 * s.timing.period else 1000000)
    ∃ u, exec .streamTimeout s = .next u ∧ u.now = laterOf armed s.now ∧ u.timing.stream = .noStream ∧
      u.timing.period = 0 ∧ u.timing.lastSync = some i ∧ u.timing.frameNumber = s.timing.frameNumber ∧
      u.timing.frames = [] ∧ u.engine.state.runs = false ∧
      EventsRaised (Event.mask .streamLost ||| maskIf (anyStaged s.engine) .modeApplied)
        (Event.mask .streamLost ||| maskIf (anyStaged s.engine) .modeApplied) s u ∧
      u.seq = s.seq ∧ u.front = s.front ∧ u.store = s.store ∧ u.cache = s.cache ∧ u.links = s.links ∧
      u.auth = s.auth

/-! ### Computations and records -/

/-- COMPUTATION_START begins the oldest WAITING entry. In PATTERN it ends at once with the sequence of R143. In
RUNNING it forms its brackets and asks the cache for its cells, a hit being received at once and a miss awaited in the
demand part of the fill queue; then it prefetches; and it ends at once when it awaits none or its cutoff has passed.
In both, the prediction of each fitted axis writes its held-count record and OUTSIDE_MAP, and raises AXIS_RANGE when a
predicted count lies outside its map.
CUTOFF ends the computation in progress with what it still awaits held, and its entry is READY. -/
def Obligations.ComputationsRun : Prop :=
  (∀ (done rest : List Entry) (e : Entry) (x : Inputs) (s : State),
     s.timing.frames = done ++ e :: rest → (∀ d ∈ done, ∃ r, d.progress = .ready r) → e.progress = .waiting →
     (∀ r ∈ rest, r.progress = .waiting) → inputsOf s = some x →
     let n := laterOf e.compute s.now
     let p := predictFrame x.ms0 e.target x.copy s
     (s.engine.state = .pattern →
       ∃ u d, exec .computationStart s = .next u ∧
         u.timing = { s.timing with
           timebase := n, frames := done ++ { e with progress := .ready d } :: rest } ∧
         d.position = p.position ∧ d.anchor = s.auth.anchor ∧ d.level = (s.link .body).recordLevel.getD 0 ∧
         d.scale = 1000000 + ((s.engine.patternCounter.toNat : Int) - 8) * 1000 ∧ d.shiftX = 0 ∧ d.shiftY = 0 ∧
         d.gains = (List.range 9).map (fun j => ((4096 + 128 * j * (s.engine.patternCounter.toNat % 4) : Nat) : Int)) ∧
         d.flags = { RecordFlags.clear with
           axisHeld := p.axisHeld, targetStale := p.targetStale, pattern := true } ∧
         u.engine.patternCounter = s.engine.patternCounter + 1 ∧ u.engine.previous = s.engine.previous ∧
         u.engine.lastPrediction = some p.position ∧ PredictionNoted x.ms0 e.target x.copy s u ∧
         u.cache = s.cache ∧ u.store = s.store ∧
         u.links = s.links ∧ u.auth = s.auth) ∧
     (s.engine.state = .running →
       let level := (s.link .body).recordLevel.getD 0
       let f := p.position.power
       let z := p.position.focal
       let i := p.position.iris
       let afterB := startBreathing level f z s.auth.anchor s.store.breathing s.cache
       let afterS := startShading level f z i s.store.shading afterB.1
       let c : Computation :=
         { position := p.position, axisHeld := p.axisHeld, targetStale := p.targetStale, anchor := s.auth.anchor,
           level := level, ms1 := x.ms1, ms2 := x.ms2, policy := x.ms3.policy, previous := s.engine.previous,
           breathing := afterB.2, shading := afterS.2,
           outsideTable := outsideTable level f z i s.auth.anchor s.store.breathing s.store.shading,
           sameStay := true }
       ∃ u, exec .computationStart s = .next u ∧ u.now = n ∧
         u.cache = prefetchAll x.ms0 level p.direction p.position s.store afterS.1 ∧
         u.engine.lastPrediction = some p.position ∧ PredictionNoted x.ms0 e.target x.copy s u ∧
         (c.settled = true ∨ 0 ≤ instantDiff n e.cutoff →
           u.timing.frames = done ++ { e with progress := .ready (deliver e.format c.holdMissing) } :: rest ∧
           u.engine.previous = rememberDelivered (deliver e.format c.holdMissing) s.engine.previous) ∧
         (c.settled = false → instantDiff n e.cutoff < 0 →
           u.timing.frames = done ++ { e with progress := .computing c } :: rest ∧
           u.engine.previous = s.engine.previous) ∧
         (c.breathing = .notFormed ↔ level = 0) ∧ (c.shading = .notFormed ↔ level < 2) ∧
         (1 ≤ level → s.store.breathing = none → c.breathing = .held) ∧
         (2 ≤ level → s.store.shading = none → c.shading = .held) ∧
         (∀ bf ba bz needs, c.breathing = .gathering bf ba bz needs →
           ∃ tb, s.store.breathing = some tb ∧ bf = bracket tb.focus f ∧ ba = bracket tb.focus s.auth.anchor ∧
             bz = bracket tb.zoom z ∧
             needs = (neededKeys (breathingCorners bf bz ++ breathingCorners ba bz)).map
               fun k => ⟨k, cachedCell k s.cache⟩) ∧
         (∀ bf bz bi rn needs, c.shading = .gathering bf bz bi rn needs →
           ∃ tb, s.store.shading = some tb ∧ bf = bracket tb.focus f ∧ bz = bracket tb.zoom z ∧
             bi = bracket tb.iris i ∧ rn = tb.rn ∧
             needs = (neededKeys (shadingCorners bf bz bi)).map fun k => ⟨k, cachedCell k s.cache⟩) ∧
         (∀ k, (∃ bf ba bz needs, c.breathing = .gathering bf ba bz needs ∧ ⟨k, none⟩ ∈ needs) ∨
             (∃ bf bz bi rn needs, c.shading = .gathering bf bz bi rn needs ∧ ⟨k, none⟩ ∈ needs) →
           ∃ q ∈ u.cache.demand, q.key = k) ∧
         u.store = s.store ∧ u.links = s.links ∧ u.auth = s.auth)) ∧
  (∀ (done rest : List Entry) (e : Entry) (c : Computation) (s : State),
     s.timing.frames = done ++ e :: rest → (∀ d ∈ done, ∃ r, d.progress = .ready r) →
     e.progress = .computing c →
     let d := deliver e.format c.holdMissing
     ∃ u, exec .cutoff s = .next u ∧
       u.timing = { s.timing with
         timebase := laterOf e.cutoff s.now, frames := done ++ { e with progress := .ready d } :: rest } ∧
       u.engine = (if c.sameStay then { s.engine with previous := rememberDelivered d s.engine.previous }
         else s.engine) ∧
       EventsRaised 0 0 s u ∧ u.seq = s.seq ∧ u.front = s.front ∧ u.store = s.store ∧ u.cache = s.cache ∧
       u.links = s.links ∧ u.auth = s.auth)

/-- At a READY entry's due instant it leaves the list, the body link is handed its record and, while UP, the
accessory link its report; RECORD_HELD and SCALE_LIMITED follow from its flags alone. An entry discarded
before, by a stream's end, raises neither. -/
def Obligations.RecordLeavesAtDueInstant : Prop :=
  (∀ (e : Entry) (d : Delivered) (rest : List Entry) (s : State),
    s.timing.frames = e :: rest → e.progress = .ready d →
    let b : State := { s with timing := { s.timing with timebase := laterOf e.due s.now, frames := rest } }
    let raised := maskIf (d.flags.scaleHeld || d.flags.shadingHeld) .recordHeld |||
      maskIf (d.flags.scaleClamped || d.flags.scaleSlewed) .scaleLimited
    ∃ t, exec .dueInstant s = .next t ∧ t.timing = b.timing ∧ EventsRaised raised raised s t ∧
      t.links = (if (s.link .accessory).state = .up
        then handRecord .accessory (frameReport s e d) (handRecord .body (recordFrame e d) b)
        else handRecord .body (recordFrame e d) b).links ∧
      t.seq = s.seq ∧ t.front = s.front ∧ t.store = s.store ∧ t.cache = s.cache ∧ t.engine = s.engine ∧
      t.auth = s.auth) ∧
  (∀ (s t : State) (l : Link), exec .streamTimeout s = .next t →
    pendingWord t l &&& (Event.mask .recordHeld ||| Event.mask .scaleLimited) =
      pendingWord s l &&& (Event.mask .recordHeld ||| Event.mask .scaleLimited))

/-- What a computation delivers: a scale inside the frame format's range, within the slew limit of the
previous one unless the range guard or FIRST lifts it, and gains between 4096 and the cap. A bracket is the row of
R107 that its value meets. A computed scale is the ratio of the mixed image scales at the anchor and at the focus,
weakened by k1, clamped, slewed and guarded, and the shift the weakened difference of the mixed offsets; a held one
starts from the hold policy's candidate. A computed curve is the mixed table curve at the radii the scale gives,
weakened by k2 and capped; a held one is the policy's, capped. The flags follow (R107, R110 to R120, R122, R123). -/
def Obligations.DeliveredValuesStayInRange : Prop :=
  (∀ (f : FrameFormat) (c : Computation), FormatInRange f →
    (c.breathing ≠ .notFormed →
      1000000 - (f.margin : Int) ≤ (deliver f c).scale ∧
      (deliver f c).scale ≤ 1000000 + (f.cropLimit : Int)) ∧
    (∀ p, c.breathing ≠ .notFormed → c.ms1.slewLimit ≠ 0 → c.previous.scale = some p →
      (deliver f c).flags.first = false → ((deliver f c).scale - p).natAbs ≤ c.ms1.slewLimit) ∧
    (4096 ≤ c.ms2.gainCap → ∀ g ∈ (deliver f c).gains, 4096 ≤ g ∧ g ≤ c.ms2.gainCap) ∧
    (c.breathing = .held → (deliver f c).flags.scaleHeld = true) ∧
    (c.shading = .held → (deliver f c).flags.shadingHeld = true)) ∧
  (∀ k x, bracket [k] x = ⟨0, 0, 0, false⟩) ∧
  (∀ (knots : List Nat) (x : Nat), knots.Pairwise (fun a b => a < b) → 2 ≤ knots.length →
    (∀ k rest, knots = k :: rest → x ≤ k → bracket knots x = ⟨0, 1, 0, decide (x < k)⟩) ∧
    (∀ pre k, knots = pre ++ [k] → k ≤ x →
      bracket knots x = ⟨knots.length - 2, knots.length - 1, 4096, decide (k < x)⟩) ∧
    (∀ pre a b post, knots = pre ++ a :: b :: post → a ≤ x → x < b →
      bracket knots x =
        ⟨pre.length, pre.length + 1, (roundDiv (((x - a) * 4096 : Nat) : Int) (b - a)).toNat, false⟩)) ∧
  (∀ (f : FrameFormat) (c : Computation),
    let d := deliver f c
    let lo : Int := 1000000 - f.margin
    let hi : Int := 1000000 + f.cropLimit
    let slewed := fun v : Int => match c.previous.scale with
      | none => v
      | some p => if c.ms1.slewLimit = 0 ∨ c.previous.first = true ∨ (v - p).natAbs ≤ c.ms1.slewLimit then v
        else if p < v then p + c.ms1.slewLimit else p - c.ms1.slewLimit
    let carries := fun (v : Int) (clamped : Prop) =>
      d.scale = max lo (min hi (slewed v)) ∧
      (d.flags.first = true ↔ c.previous.first = true ∨ slewed v < lo ∨ hi < slewed v) ∧
      (d.flags.scaleClamped = true ↔ clamped ∨ slewed v < lo ∨ hi < slewed v) ∧
      (d.flags.scaleSlewed = true ↔ slewed v ≠ v ∧ lo ≤ slewed v ∧ slewed v ≤ hi)
    let received := fun (needs : List Need) (field : Cell → Int) (k : Key) =>
      match needs.find? fun n => decide (n.key = k) with
      | some ⟨_, some cell⟩ => field cell
      | _ => 0
    let mix := fun (b : Bracket) (g : Nat → Int) => ((4096 - b.weight : Nat) : Int) * g b.lower + b.weight * g b.upper
    (∀ bf ba bz needs, c.breathing = .gathering bf ba bz needs →
      let at_ := fun (b : Bracket) (field : Cell → Int) =>
        roundDiv (mix b fun x => mix bz fun y => received needs field ⟨.breathing, x, y, 0⟩) 16777216
      let raw := roundDiv (at_ ba Cell.m * 1000000) (at_ bf Cell.m).toNat
      let k1 : Int := c.ms1.strength
      let sk := 1000000 + roundDiv (k1 * (raw - 1000000)) 100
      let shift := fun field : Cell → Int =>
        if c.ms1.centreShift then max (-10000) (min 10000 (roundDiv (k1 * (at_ bf field - at_ ba field)) 100)) else 0
      carries (max lo (min hi sk)) (max lo (min hi sk) ≠ sk) ∧ d.flags.scaleHeld = false ∧
      d.shiftX = shift Cell.dx ∧ d.shiftY = shift Cell.dy) ∧
    (c.breathing = .held →
      (c.policy = .hold → carries (c.previous.scale.getD 1000000) False ∧
        (d.shiftX, d.shiftY) = c.previous.shift.getD (0, 0)) ∧
      (c.policy = .neutral → carries 1000000 False ∧ d.shiftX = 0 ∧ d.shiftY = 0)) ∧
    (∀ bf bz bi rn needs, c.shading = .gathering bf bz bi rn needs → 4096 ≤ c.ms2.gainCap →
      let curve := fun j => roundDiv (mix bf fun x => mix bz fun y => mix bi fun i =>
        received needs (Cell.gain j) ⟨.shading, x, y, i⟩) 68719476736
      let radius := fun j : Nat =>
        (roundDiv ((j * f.hd * 4096 * 1000000 : Nat) : Int) (8 * d.scale.toNat * rn)).toNat
      let value := fun j : Nat =>
        let i := radius j / 512
        if 8 ≤ i then curve 8
        else curve i + roundDiv ((curve (i + 1) - curve i) * ((radius j - 512 * i : Nat) : Int)) 512
      let gain := fun j : Nat => 4096 + roundDiv (c.ms2.strength * (value j - 4096)) 100
      d.gains = (List.range 9).map (fun j => max 4096 (min (c.ms2.gainCap : Int) (gain j))) ∧
      (d.flags.shadingCapped = true ↔ ∃ j < 9, gain j < 4096 ∨ c.ms2.gainCap < gain j) ∧
      (d.flags.beyondCircle = true ↔ ∃ j < 9, 4096 < radius j) ∧ d.flags.shadingHeld = false) ∧
    (c.shading = .held → 4096 ≤ c.ms2.gainCap →
      let curve : List Int := match c.policy with
        | .hold => c.previous.curve.getD (List.replicate 9 4096)
        | .neutral => List.replicate 9 4096
      d.gains = curve.map (fun g => max 4096 (min (c.ms2.gainCap : Int) g)) ∧
      (d.flags.shadingCapped = true ↔ ∃ g : Int, g ∈ curve ∧ (g < 4096 ∨ c.ms2.gainCap < g)) ∧
      d.flags.beyondCircle = false))

/-! ### The flash read port and store operations -/

/-- PORT_READ_START serves the first source of R80 that has a read ready. A cell is read from its place in the
active table's sector, each field clamped to its range (R56, R61). -/
def Obligations.PortServesInRank : Prop :=
  (∀ s : State, s.started = true → s.store.port = none → s.store.op = none →
    (∀ pre post e tb, s.cache.demand = pre ++ e :: post → (∀ x ∈ pre, x.beingRead = true) →
      e.beingRead = false → s.active e.key.kind = some tb →
      exec .portReadStart s = .next (settle { s with
        cache := { s.cache with demand := pre ++ { e with beingRead := true } :: post },
        store := { s.store with port := some ⟨.fill e.key (cellAt s.store.flash tb e.key), s.now⟩ } })) ∧
    ((∀ x ∈ s.cache.demand, x.beingRead = true) →
      (∀ k ks tb, s.cache.walk.state = .walking → s.cache.walk.rest = k :: ks → s.active k.kind = some tb →
        exec .portReadStart s = .next (settle { s with
          store := { s.store with
            port := some ⟨.walk k (cellAt s.store.flash tb k) tb.generation false, s.now⟩ } })) ∧
      (s.cache.walk.state ≠ .walking →
        (∀ pre post e tb, s.cache.prefetch = pre ++ e :: post → (∀ x ∈ pre, x.beingRead = true) →
          e.beingRead = false → s.active e.key.kind = some tb →
          exec .portReadStart s = .next (settle { s with
            cache := { s.cache with prefetch := pre ++ { e with beingRead := true } :: post },
            store := { s.store with port := some ⟨.fill e.key (cellAt s.store.flash tb e.key), s.now⟩ } })) ∧
        ((∀ x ∈ s.cache.prefetch, x.beingRead = true) →
          ∀ r rs, s.store.readStoreWaiting = r :: rs →
          exec .portReadStart s = .next (settle { s with
            store := { s.store with readStoreWaiting := rs, port := some ⟨.readStore r false, s.now⟩ } }))))) ∧
  (∀ (m : List Host.Cell) (tb : ActiveTable) (f z i : Nat),
    let table := 65536 * tb.sector.toNat
    let nf := tb.focus.length
    let nz := tb.zoom.length
    let number := f + nf * (z + nz * i)
    let b := table + 11 + 2 * (nf + nz) + 8 * number
    let g := table + 14 + 2 * (nf + nz + tb.iris.length) + 18 * number
    cellAt m tb ⟨.breathing, f, z, i⟩ = .breathing (max 800000 (min 1250000 (flash32 m b)))
      (max (-5000) (min 5000 (BitVec.ofNat 16 (flash16 m (b + 4))).toInt))
      (max (-5000) (min 5000 (BitVec.ofNat 16 (flash16 m (b + 6))).toInt)) ∧
    cellAt m tb ⟨.shading, f, z, i⟩ =
      .shading ((List.range 9).map fun j => max 4096 (min 32767 (flash16 m (g + 2 * j) : Int))))

/-- The ends of the port's reads. FILL_COMPLETE: the entry leaves the queue, a cell of another generation is
discarded, and one of the active generation is placed, so that an enabled cache then holds it, and is received by the
computation that awaits it before its cutoff; the last awaited cell ends it. WALK_READ_COMPLETE: a read of a walk in
progress places and locks its cell and counts it, or discards one of another generation and counts it as skipped, and
the walk goes on; a read whose walk has stopped is discarded. READ_STORE_READ_END: the reply with the bytes as stored
joins the accessory link's list, with the refusals held back for it behind it (log 33), or nothing does when that link
has left UP. -/
def Obligations.PortReadsEnd : Prop :=
  (∀ k cell since e (s : State), s.store.port = some ⟨.fill k cell, since⟩ → readEntry k s.cache = some e →
     ((s.active k.kind).map ActiveTable.generation ≠ some e.generation →
       ∃ t, exec .fillComplete s = .next t ∧ t.now = laterOf (addInterval since 24) s.now ∧
         t.store = { s.store with port := none } ∧ t.cache = removeRead k s.cache ∧ t.engine = s.engine ∧
         t.timing.frames = s.timing.frames ∧ t.links = s.links) ∧
     ((s.active k.kind).map ActiveTable.generation = some e.generation →
       ∃ t, exec .fillComplete s = .next t ∧ t.now = laterOf (addInterval since 24) s.now ∧
         t.store = { s.store with port := none } ∧ t.cache = placeCell k cell (removeRead k s.cache) ∧
         (CacheLaw s → s.cache.disabled = false → cachedCell k t.cache = some cell) ∧
         t.timing = { s.timing with timebase := laterOf (addInterval since 24) s.now, frames := t.timing.frames } ∧
         ((∀ x ∈ s.timing.frames, ∀ c, x.progress ≠ .computing c) →
           t.timing.frames = s.timing.frames ∧ t.engine = s.engine) ∧
         (∀ done rest x c, s.timing.frames = done ++ x :: rest → (∀ d ∈ done, ∃ r, d.progress = .ready r) →
           x.progress = .computing c →
           let got := fun needs : List Need =>
             needs.map fun n => if n.key = k ∧ n.cell = none then ⟨k, some cell⟩ else n
           let c' : Computation := { c with
             breathing := (match c.breathing with
               | .gathering f a z needs => .gathering f a z (got needs)
               | b => b),
             shading := (match c.shading with
               | .gathering f z i rn needs => .gathering f z i rn (got needs)
               | b => b) }
           let d := deliver x.format c'
           (0 < instantDiff t.now x.cutoff → t.timing.frames = s.timing.frames ∧ t.engine = s.engine) ∧
           (instantDiff t.now x.cutoff ≤ 0 → c'.settled = false →
             t.timing.frames = done ++ { x with progress := .computing c' } :: rest ∧ t.engine = s.engine) ∧
           (instantDiff t.now x.cutoff ≤ 0 → c'.settled = true →
             t.timing.frames = done ++ { x with progress := .ready d } :: rest ∧
             t.engine = (if c.sameStay
               then { s.engine with previous := rememberDelivered d s.engine.previous } else s.engine))) ∧
         t.links = s.links ∧ t.auth = s.auth)) ∧
  (∀ k ks cell g dropped since (s : State), s.store.port = some ⟨.walk k cell g dropped, since⟩ →
     (dropped = false → s.cache.walk.state = .walking → s.cache.walk.rest = k :: ks →
       (s.active k.kind).map ActiveTable.generation = some g →
       let c := placeCell k cell s.cache
       exec .walkReadComplete s = .next (settle (walkAdvance { s with
         timing := { s.timing with timebase := laterOf (addInterval since 24) s.now },
         store := { s.store with port := none },
         cache := { c with
           sets := changeSet k (lockInSet k) c.sets,
           walk := { s.cache.walk with rest := ks, locked := s.cache.walk.locked + 1 } } }))) ∧
     (dropped = false → s.cache.walk.state = .walking → s.cache.walk.rest = k :: ks →
       (s.active k.kind).map ActiveTable.generation ≠ some g →
       exec .walkReadComplete s = .next (settle (walkAdvance { s with
         timing := { s.timing with timebase := laterOf (addInterval since 24) s.now },
         store := { s.store with port := none },
         cache := { s.cache with
           walk := { s.cache.walk with rest := ks, skipped := s.cache.walk.skipped + 1 } } }))) ∧
     (dropped = true ∨ s.cache.walk.state ≠ .walking →
       exec .walkReadComplete s = .next (settle { s with
         timing := { s.timing with timebase := laterOf (addInterval since 24) s.now },
         store := { s.store with port := none } }))) ∧
  (∀ r dropped since (s : State), s.store.port = some ⟨.readStore r dropped, since⟩ →
     let b : State := { s with
       timing := { s.timing with timebase := laterOf (addInterval since 40) s.now },
       store := { s.store with port := none } }
     let u := s.link .accessory
     let reply : TxFrame := ⟨0x44, 0 :: (List.range r.count).map fun i =>
       flashRead s.store.flash (65536 * r.sector.toNat + r.offset.toNat + i)⟩
     exec .readStoreReadEnd s = .next (settle (if dropped then b else
       startTransmit .accessory (b.setLink .accessory
         { u with replies := u.replies ++ reply :: u.heldBack, heldBack := [] }))))

/-- The work of an operation begins once the port is free; the end of an erase leaves every byte of the sector
at 0xFF and every other byte as it was, the store IDLE and STORE_DONE raised. -/
def Obligations.EraseRunsToItsEnd : Prop :=
  (∀ name sector page (s : State), s.store.op = some ⟨name, sector, page, none⟩ → s.store.port = none →
    name ≠ .clearReadProtection →
    exec .storeWorkBegins s = .next (settle { s with
      store := { s.store with op := some ⟨name, sector, page, some s.now⟩ } })) ∧
  (∀ n page since (s : State), s.store.op = some ⟨.eraseSector, some n, page, some since⟩ →
    s.engine.state.runs = false →
    ∃ t, exec .eraseComplete s = .next t ∧ t.now = laterOf (addInterval since 45000) s.now ∧
      (∀ a, flashRead t.store.flash a =
        if 65536 * n.toNat ≤ a ∧ a < 65536 * n.toNat + 65536 then 0xFF else flashRead s.store.flash a) ∧
      t.store = { s.store with
        flash := t.store.flash, op := none, lastCompletion := some ⟨.eraseSector, some n, page, .done⟩ } ∧
      EventsRaised (Event.mask .storeDone) (Event.mask .storeDone) s t ∧
      t.seq = s.seq ∧ t.front = s.front ∧ t.cache = s.cache ∧ t.links = s.links ∧ t.auth = s.auth)

/-- PROGRAM_COMPLETE: each byte of the page becomes its old value AND the buffer byte, every other byte stays,
the page is compared with the buffer, a fault carries the first differing offset and the number of differing bytes,
and the buffer returns to 0xFF. -/
def Obligations.ProgramRunsToItsEnd : Prop :=
  ∀ n p since (s : State), StoreLaw s → s.store.op = some ⟨.programPage, some n, some p, some since⟩ →
    s.engine.state.runs = false →
    let base := 65536 * n.toNat + 256 * p.toNat
    let differs := fun i => decide (flashRead s.store.flash (base + i) &&& s.store.pageBuffer.getD i 0 ≠
      s.store.pageBuffer.getD i 0)
    ∃ t r, exec .programComplete s = .next t ∧ t.now = laterOf (addInterval since 1500) s.now ∧
      (∀ a, flashRead t.store.flash a = if base ≤ a ∧ a < base + 256
        then flashRead s.store.flash a &&& s.store.pageBuffer.getD (a - base) 0
        else flashRead s.store.flash a) ∧
      t.store = { s.store with
        flash := t.store.flash, pageBuffer := List.replicate 256 0xFF#8, op := none,
        lastCompletion := some ⟨.programPage, some n, some p, r⟩ } ∧
      ((∀ i < 256, differs i = false) → r = .done ∧
        EventsRaised (Event.mask .storeDone) (Event.mask .storeDone) s t) ∧
      (∀ i < 256, differs i = true → (∀ j < i, differs j = false) →
        r = .verifyFault i ((List.range 256).countP differs) ∧
        EventsRaised (Event.mask .storeFault) (Event.mask .storeFault) s t) ∧
      t.cache = s.cache ∧ t.links = s.links ∧ t.auth = s.auth

/-- SET READ PROTECTION ends with the marker programmed and protection set, DONE with STORE_DONE when the marker
area equals the pattern, and else in a verify fault with the first differing offset, the count and STORE_FAULT. Each
erase of CLEAR READ PROTECTION leaves its sector at 0xFF, goes on to the next sector with its withdrawals, and after
sector 7 protection is clear and the operation DONE with STORE_DONE; the sector of its completion record is log 16. -/
def Obligations.ReadProtectionOperationsRun : Prop :=
  (∀ n p since (s : State), StoreLaw s → s.store.op = some ⟨.setReadProtection, n, p, some since⟩ →
    ∃ t, exec .setReadProtectionComplete s = .next t ∧ t.now = laterOf (addInterval since 1500) s.now ∧
      (∀ a, flashRead t.store.flash a = if 458752 ≤ a ∧ a < 458768
        then flashRead s.store.flash a &&& markerPattern.getD (a - 458752) 0 else flashRead s.store.flash a) ∧
      t.store.readProtection = true ∧ t.store.op = none ∧ t.store.pageBuffer = s.store.pageBuffer ∧
      t.store.verdicts = s.store.verdicts ∧ t.cache = s.cache ∧ t.links = s.links ∧ t.auth = s.auth ∧
      let wanted := fun i => markerPattern.getD i 0
      let differs := fun i => decide (flashRead s.store.flash (458752 + i) &&& wanted i ≠ wanted i)
      ((∀ i < 16, differs i = false) →
        t.store.lastCompletion = some ⟨.setReadProtection, n, p, .done⟩ ∧
        (s.engine.state.runs = false → EventsRaised (Event.mask .storeDone) (Event.mask .storeDone) s t)) ∧
      (∀ i < 16, differs i = true → (∀ j < i, differs j = false) →
        t.store.lastCompletion =
          some ⟨.setReadProtection, n, p, .verifyFault i ((List.range 16).countP differs)⟩ ∧
        (s.engine.state.runs = false → EventsRaised (Event.mask .storeFault) (Event.mask .storeFault) s t))) ∧
  (∀ (n : BitVec 3) (s : State), s.store.op = some ⟨.clearReadProtection, some n, none, none⟩ →
    s.store.port = none → n ≠ 0 →
    ∃ t, exec .storeWorkBegins s = .next t ∧
      t.store.op = some ⟨.clearReadProtection, some n, none, some s.now⟩ ∧
      t.store.flash = s.store.flash ∧ t.store.verdicts = s.store.verdicts.set n.toNat .unscanned ∧
      (∀ k tb, t.active k = some tb → tb.sector ≠ n) ∧ t.links = s.links ∧ t.auth = s.auth) ∧
  (∀ (n : BitVec 3) p since (s : State), s.store.op = some ⟨.clearReadProtection, some n, p, some since⟩ →
    n ≠ 0 →
    ∃ t, exec .clearProtectionSectorErased s = .next t ∧
      t.now = laterOf (addInterval since 45000) s.now ∧
      (∀ a, flashRead t.store.flash a =
        if 65536 * n.toNat ≤ a ∧ a < 65536 * n.toNat + 65536 then 0xFF else flashRead s.store.flash a) ∧
      (n = 7 → t.store.op = none ∧ t.store.readProtection = false ∧
        t.store.lastCompletion = some ⟨.clearReadProtection, some 7, p, .done⟩ ∧
        (s.engine.state.runs = false → EventsRaised (Event.mask .storeDone) (Event.mask .storeDone) s t)) ∧
      (n ≠ 7 → t.store.op = some ⟨.clearReadProtection, some (n + 1), p, some t.now⟩ ∧
        t.store.readProtection = s.store.readProtection ∧ t.store.lastCompletion = s.store.lastCompletion ∧
        t.store.verdicts = s.store.verdicts.set (n.toNat + 1) .unscanned ∧ EventsRaised 0 0 s t ∧
        (∀ k tb, t.active k = some tb → tb.sector ≠ n + 1)) ∧
      t.store.sector0Valid = s.store.sector0Valid ∧ t.store.pageBuffer = s.store.pageBuffer ∧
      t.links = s.links ∧ t.auth = s.auth)

/-- What holds its value but for its own commands: a byte of flash but for the ends of operations that erase or
program and the resets that cut one off; and, away from the four restarts and from a byte or frame that may be
any request, the page buffer, the marks list, the anchor, the frame format, the enable words, the straps, the
reset cause and the disabled mark of the cache. -/
def Obligations.ValuesChangeOnlyByTheirCommands : Prop :=
  ∀ (c : Instr) (s t : State), exec c s = .next t →
    (writesFlash c = false → t.store.flash = s.store.flash) ∧
    (restarts c = false → t.seq.straps = s.seq.straps ∧ t.seq.cause = s.seq.cause) ∧
    (restarts c = false → mayBeAnyRequest c = false →
      (match c with
        | .loadPageBuffer _ _ _ | .programComplete => True
        | _ => t.store.pageBuffer = s.store.pageBuffer) ∧
      (match c with
        | .setMark _ _ _ | .deleteMark _ _ _ => True
        | _ => t.auth.marks = s.auth.marks) ∧
      (match c with
        | .setAnchor _ _ _ | .anchorHere _ _ _ | .tableScanEnd => True
        | _ => t.auth.anchor = s.auth.anchor) ∧
      (match c with
        | .frameFormat _ _ _ | .frameInfo _ _ _ => True
        | _ => t.timing.format = s.timing.format) ∧
      (match c with
        | .setEventEnables _ _ _ => True
        | _ => ∀ l, enableWord t l = enableWord s l) ∧
      (match c with
        | .cacheRamCheckDone _ => True
        | _ => t.cache.disabled = s.cache.disabled))

/-! ### Links -/

/-- BYTE_RECEIVED: a marker begins a frame, other bytes are discarded while hunting, a frame goes on with its gap
timer armed for 200 µs, and a byte that ends a frame does what that ending's own row does (log 10).
FRAME_ABANDONED and FRAME_GAP_TIMEOUT raise FRAME_REJECTED on their link alone. A good frame of a known kind does
what that kind's own row does (an unknownKindRequest of a known kind is log 24). -/
def Obligations.BytesBuildFrames : Prop :=
  (∀ (l : Link) (t : Instant) (b : Byte) (s : State), s.started = true →
     let n := laterOf t s.now
     let timed : State := { s with timing := { s.timing with timebase := n } }
     ((s.link l).parser = .hunting → b ≠ 0xA5 → exec (.byteReceived l t b) s = .next (settle timed)) ∧
     ((s.link l).parser = .hunting → b = 0xA5 →
       exec (.byteReceived l t b) s = .next (settle
         (timed.setLink l { s.link l with parser := .inFrame [] (addInterval n 200) }))) ∧
     (∀ bytes due, (s.link l).parser = .inFrame bytes due →
       let all := bytes ++ [b]
       let length := byteAt all 1
       (all.length < 2 ∨ (length ≤ 240 ∧ all.length < length + 4) →
         exec (.byteReceived l t b) s = .next (settle
           (timed.setLink l { s.link l with parser := .inFrame all (addInterval n 200) }))) ∧
       (2 ≤ all.length ∧ (240 < length ∨ (length + 4 ≤ all.length ∧ crcAgrees all length = false)) →
         exec (.byteReceived l t b) s = exec (.frameAbandoned l t b) s ∧
         exec (.frameAbandoned l t b) s = .next (settle (raiseOn l .frameRejected
           (timed.setLink l { s.link l with parser := .hunting })))) ∧
       (2 ≤ all.length → length ≤ 240 → length + 4 ≤ all.length → crcAgrees all length = true →
         exec (.byteReceived l t b) s =
           exec (.unknownKindRequest l t (all.getD 0 0) ((all.drop 2).take length)) s) ∧
       exec (.frameGapTimeout l) s = .next (settle (raiseOn l .frameRejected { s with
         timing := { s.timing with timebase := laterOf due s.now },
         links := s.links.set l { s.link l with parser := .hunting } })))) ∧
  (∀ (l : Link) (t : Instant) (p : List Byte) (s : State),
     let e := fun k => exec (.unknownKindRequest l t k p) s
     e 0x01 = exec (.ability l t p) s ∧ e 0x10 = exec (.identify l t p) s ∧
     e 0x11 = exec (.readStatus l t p) s ∧ e 0x12 = exec (.readPosition l t p) s ∧
     e 0x13 = exec (.readEvents l t p) s ∧ e 0x14 = exec (.modifyEvents l t p) s ∧
     e 0x15 = exec (.setEventEnables l t p) s ∧ e 0x16 = exec (.renegotiate l t p) s ∧
     e 0x17 = exec (.reinitialize l t p) s ∧ e 0x20 = exec (.frameFormat l t p) s ∧
     e 0x21 = exec (.frameInfo l t p) s ∧ e 0x22 = exec (.writeModeSet l t p) s ∧
     e 0x23 = exec (.readModeSet l t p) s ∧ e 0x30 = exec (.setAnchor l t p) s ∧
     e 0x31 = exec (.anchorHere l t p) s ∧ e 0x32 = exec (.setMark l t p) s ∧
     e 0x33 = exec (.deleteMark l t p) s ∧ e 0x34 = exec (.readMarks l t p) s ∧
     e 0x38 = exec (.lockPath l t p) s ∧ e 0x39 = exec (.unlock l t p) s ∧
     e 0x3A = exec (.cacheStatus l t p) s ∧ e 0x3B = exec (.dumpCache l t p) s ∧
     e 0x40 = exec (.loadPageBuffer l t p) s ∧ e 0x41 = exec (.programPage l t p) s ∧
     e 0x42 = exec (.eraseSector l t p) s ∧ e 0x43 = exec (.rescanTables l t p) s ∧
     e 0x44 = exec (.readStore l t p) s ∧ e 0x45 = exec (.setReadProtection l t p) s ∧
     e 0x46 = exec (.clearReadProtection l t p) s)

/-- ABILITY with a valid word moves its link as R148, R154 and R155 give, and one with an invalid word raises
FRAME_REJECTED alone. An entry to UP and a departure from it raise PEER_LINK_CHANGED on the other link alone and
resolve authority; an equal-seed restart takes both links out of UP and raises it on both. -/
def Obligations.AbilityWordMovesTheLink : Prop :=
  ∀ (l : Link) (t : Instant) (p : List Byte) (s : State), s.started = true →
    let n := laterOf t s.now
    (masterWord p = none → ∃ u, exec (.ability l t p) s = .next u ∧ (u.link l).state = (s.link l).state ∧
      EventsRaised (maskOn .body l .frameRejected) (maskOn .accessory l .frameRejected) s u ∧
      u.auth = s.auth ∧ u.engine = s.engine ∧ u.link (otherLink l) = s.link (otherLink l)) ∧
    (∀ w, masterWord p = some w →
      ((s.link l).state = .silent → ∃ u, exec (.ability l t p) s = .next u ∧
        (u.link l).state = .abilityDetect ∧ (u.link l).matchCount = 1 ∧ (u.link l).previousWord = some w ∧
        (u.link l).acceptedWord = none ∧ (u.link l).latchedLevel = some (maxRecordLevel s) ∧
        (u.link l).timeout = some (addInterval n 100000) ∧ (u.link l).sendDue = some (addInterval n 2000)) ∧
      (∀ v, (s.link l).state = .abilityDetect → (s.link l).previousWord = some v → sameWord v w = true →
        ∃ u, exec (.ability l t p) s = .next u ∧ (u.link l).matchCount = min 3 ((s.link l).matchCount + 1) ∧
          (u.link l).timeout = some (addInterval n 100000) ∧
          ((s.link l).matchCount + 1 < 3 → (u.link l).state = .abilityDetect) ∧
          (3 ≤ (s.link l).matchCount + 1 →
            (u.link l).state = .acknowledge ∧ (u.link l).acceptedWord = some w)) ∧
      ((s.link l).state = .abilityDetect → (∀ v, (s.link l).previousWord = some v → sameWord v w = false) →
        ∃ u, exec (.ability l t p) s = .next u ∧ (u.link l).state = .abilityDetect ∧
          (u.link l).matchCount = 1 ∧ (u.link l).previousWord = some w) ∧
      (∀ v, (s.link l).state = .acknowledge → (s.link l).acceptedWord = some v → sameWord v w = true →
        w.acknowledge = false → ∃ u, exec (.ability l t p) s = .next u ∧ (u.link l).state = .acknowledge ∧
          (u.link l).timeout = some (addInterval n 100000)) ∧
      (∀ v, (s.link l).state = .acknowledge → (s.link l).acceptedWord = some v → sameWord v w = true →
        w.acknowledge = true → (s.link (otherLink l)).state ≠ .up →
        ∃ u, exec (.ability l t p) s = .next u ∧ (u.link l).state = .up ∧
          (u.link l).timeout = some (addInterval n 250000) ∧ (u.link l).sendDue = none ∧
          u.auth.holder = (if v.claim = .decline then none else some l) ∧ u.auth.conflict = false ∧
          PeerTold l s u ∧ (l = .body → (u.link l).recordLevel = some (min v.level ((s.link l).latchedLevel.getD 0)))) ∧
      (∀ v v', (s.link l).state = .acknowledge → (s.link l).acceptedWord = some v → sameWord v w = true →
        w.acknowledge = true → (s.link (otherLink l)).state = .up → (s.link (otherLink l)).acceptedWord = some v' →
        let r := (match l with | .body => resolveBoth v v' | .accessory => resolveBoth v' v)
        ∃ u, exec (.ability l t p) s = .next u ∧
          (r ≠ .equalSeeds ∨ 6 ≤ s.auth.equalSeeds → (u.link l).state = .up ∧
            (u.link (otherLink l)).state = .up ∧ PeerTold l s u) ∧
          (∀ h, r = .holder h → u.auth.holder = h ∧ u.auth.conflict = false ∧ u.auth.equalSeeds = 0) ∧
          (r = .conflict → u.auth.holder = none ∧ u.auth.conflict = true ∧
            u.auth.equalSeeds = s.auth.equalSeeds) ∧
          (r = .equalSeeds → 6 ≤ s.auth.equalSeeds → u.auth.holder = none ∧ u.auth.conflict = true) ∧
          (r = .equalSeeds → s.auth.equalSeeds < 6 →
            u.auth.holder = none ∧ u.auth.conflict = false ∧ u.auth.equalSeeds = s.auth.equalSeeds + 1 ∧
            ∀ k, (u.link k).state = .abilityDetect ∧ (u.link k).matchCount = 0 ∧ (u.link k).previousWord = none ∧
              (s.events.isSome = true → (pendingWord u k).getLsbD Event.peerLinkChanged.bit = true))) ∧
      (∀ v, (s.link l).state = .acknowledge → (s.link l).acceptedWord = some v → sameWord v w = false →
        ∃ u, exec (.ability l t p) s = .next u ∧ (u.link l).state = .abilityDetect ∧
          (u.link l).matchCount = 1 ∧ (u.link l).acceptedWord = none) ∧
      ((s.link l).state = .up → ∃ u, exec (.ability l t p) s = .next u ∧
        (u.link l).state = .abilityDetect ∧ (u.link l).matchCount = 1 ∧ (u.link l).previousWord = some w ∧
        (u.link l).replies = [] ∧ (u.link l).records = [] ∧ u.auth.holder ≠ some l ∧
        u.auth.conflict = false ∧ PeerTold l s u))

/-- The exchange's timers: an ABILITY send comes due and the next interval begins; a timeout of
ABILITY_DETECT or ACKNOWLEDGE takes the link to SILENT, and one of UP takes it out of UP with PEER_LINK_CHANGED on
the other link. -/
def Obligations.LinkTimersExpire : Prop :=
  ∀ (l : Link) (due : Instant) (s : State),
    let n := laterOf due s.now
    ((s.link l).sendDue = some due → ∃ t, exec (.abilitySendDue l) s = .next t ∧ t.now = n ∧
      (t.link l).state = (s.link l).state ∧
      (t.link l).sendDue =
        some (addInterval due (if (s.link l).state = .silent then 10000 else 2000)) ∧
      t.link (otherLink l) = s.link (otherLink l) ∧ t.store = s.store ∧ t.engine = s.engine ∧
      t.auth = s.auth) ∧
    ((s.link l).state = .abilityDetect ∨ (s.link l).state = .acknowledge → (s.link l).timeout = some due →
      ∃ t, exec (.abilityTimeout l) s = .next t ∧ t.now = n ∧ (t.link l).state = .silent ∧
        (t.link l).timeout = none ∧ (t.link l).sendDue = some (addInterval n 10000) ∧
        ((s.link l).state = .abilityDetect → (t.link l).matchCount = 0 ∧ (t.link l).previousWord = none) ∧
        ((s.link l).state = .acknowledge → (t.link l).acceptedWord = none) ∧
        t.link (otherLink l) = s.link (otherLink l) ∧ t.auth = s.auth ∧ t.engine = s.engine) ∧
    ((s.link l).state = .up → (s.link l).timeout = some due →
      ∃ t, exec (.linkUpTimeout l) s = .next t ∧ t.now = n ∧ (t.link l).state = .silent ∧
        (t.link l).replies = [] ∧ (t.link l).records = [] ∧ (t.link l).acceptedWord = none ∧
        (t.link l).sendDue = some (addInterval n 10000) ∧ t.auth.holder ≠ some l ∧
        t.auth.conflict = false ∧ PeerTold l s t ∧ (l = .body → t.engine.state.runs = false) ∧
        t.auth.marks = s.auth.marks ∧ t.auth.anchor = s.auth.anchor)

/-- A transmitter whose line is free begins the oldest record or report, then the oldest reply, then an ABILITY
frame that has come due, with the ability word of R187: at TRANSMIT_END, which frees the line, and when a reply joins
its link's list; it begins nothing between the reply of RENEGOTIATE or REINITIALIZE and the restart, the model's choice
(log 17). A frame leaves as marker, kind, length, payload and CRC, each byte in ten bit times at its line's rate (R146),
the time rounded to microseconds, the model's choice (log 11), and a parser takes those bytes for that frame. PERIODIC_REPORT_DUE hands the accessory link a report without a frame
number and begins the next 20 ms. -/
def Obligations.TransmittersSendInOrder : Prop :=
  (∀ (l : Link) (f : TxFrame) (since : Instant) (s : State), (s.link l).sending = some (f, since) →
     ¬(f = ⟨0x16, [0]⟩ ∧ (s.link l).state = .up) → ¬(f = ⟨0x17, [0]⟩ ∧ s.seq.reinit = .replying l) →
     (s.link l).renegotiateDue = false → s.seq.reinit ≠ .due →
     let n := laterOf (addInterval since (frameTime s.seq.straps l f)) s.now
     ∃ t, exec (.transmitEnd l) s = .next t ∧ t.timing = { s.timing with timebase := n } ∧
       t.link (otherLink l) = s.link (otherLink l) ∧
       (∀ g gs, (s.link l).records = g :: gs →
         t.link l = { s.link l with records := gs, sending := some (g, n) }) ∧
       (∀ g gs, (s.link l).records = [] → (s.link l).replies = g :: gs →
         t.link l = { s.link l with replies := gs, sending := some (g, n) }) ∧
       ((s.link l).records = [] → (s.link l).replies = [] → (s.link l).abilityWaiting = true →
         let level := if s.store.breathing = none then 0 else if s.store.shading = none then 1 else 2
         let sent := if (s.link l).state = .silent then level else (s.link l).latchedLevel.getD level
         t.link l = { s.link l with abilityWaiting := false, sending := some (⟨0x01, [BitVec.ofNat 8 sent, 1,
           (match l with | .body => 0 | .accessory => 1),
           if (s.link l).state = .acknowledge then 1 else 0]⟩, n) }) ∧
       ((s.link l).records = [] → (s.link l).replies = [] → (s.link l).abilityWaiting = false →
         t.link l = { s.link l with sending := none }) ∧
       t.seq = s.seq ∧ t.front = s.front ∧ t.store = s.store ∧ t.cache = s.cache ∧ t.engine = s.engine ∧
       t.auth = s.auth) ∧
  (∀ (l : Link) (k : Byte) (p : List Byte) (s : State),
     let f : TxFrame := ⟨k, p⟩
     let t := joinReply l k p s
     t = { s with links := t.links } ∧ t.link (otherLink l) = s.link (otherLink l) ∧
     ((s.link l).sending.isSome = true ∨ (s.link l).renegotiateDue = true ∨ s.seq.reinit = .due →
       t.link l = { s.link l with replies := (s.link l).replies ++ [f] }) ∧
     ((s.link l).sending = none → (s.link l).renegotiateDue = false → s.seq.reinit ≠ .due →
       (∀ g gs, (s.link l).records = g :: gs → t.link l = { s.link l with
         records := gs, replies := (s.link l).replies ++ [f], sending := some (g, s.now) }) ∧
       (∀ g gs, (s.link l).records = [] → (s.link l).replies = g :: gs → t.link l = { s.link l with
         replies := gs ++ [f], sending := some (g, s.now) }) ∧
       ((s.link l).records = [] → (s.link l).replies = [] → t.link l = { s.link l with
         sending := some (f, s.now) }))) ∧
  (∀ (l : Link) (f : TxFrame) (since : Instant) (s : State), (s.link l).sending = some (f, since) →
     let checked := [f.kind, BitVec.ofNat 8 f.payload.length] ++ f.payload
     lineBytes s l = some ([0xA5] ++ checked ++ le16 (crc16 checked).toNat) ∧
     frameTime s.seq.straps l f = (roundDiv ((f.payload.length + 5) * 10 * 1000000) (match l with
       | .body => 1500000
       | .accessory => if s.seq.straps.accessoryRate then 460800 else 230400)).toNat) ∧
  (∀ f : TxFrame, f.payload.length ≤ 240 →
     f.bytes.head? = some 0xA5 ∧ frameEffect (f.bytes.drop 1) = .completes f.kind f.payload) ∧
  (∀ (due : Instant) (s : State), s.engine.reportDue = some due → (s.link .accessory).state = .up →
     s.engine.state.runs = false →
     exec .periodicReportDue s = .next (settle (handRecord .accessory
       ⟨0x81, reportPayload s none (latestFields s .focus).1 (unitsValue s .focus) (unitsValue s .zoom)
         (unitsValue s .iris)⟩
       { s with timing := { s.timing with timebase := laterOf due s.now },
                engine := { s.engine with reportDue := some (addInterval due 20000) } })))

/-- RENEGOTIATE is answered OK; the end of its reply makes the link's restart due, and the restart takes the
link out of UP into ABILITY_DETECT with count 0 and no previous word and raises PEER_LINK_CHANGED on the other link. -/
def Obligations.RenegotiateRestartsItsLink : Prop :=
  (∀ l t (s : State), Serves l s →
    exec (.renegotiate l t []) s = .next (settle (joinReply l 0x16 [0x00] (received l t s)))) ∧
  (∀ l since (s : State), (s.link l).sending = some (⟨0x16, [0]⟩, since) → (s.link l).state = .up →
    ∃ t, exec (.transmitEnd l) s = .next t ∧
      t.link l = { s.link l with sending := none, renegotiateDue := true } ∧
      t.link (otherLink l) = s.link (otherLink l) ∧ t.seq = s.seq ∧ t.auth = s.auth) ∧
  (∀ l (s : State), (s.link l).renegotiateDue = true →
    ∃ t, exec (.renegotiateLinkRestart l) s = .next t ∧ (t.link l).state = .abilityDetect ∧
      (t.link l).matchCount = 0 ∧ (t.link l).previousWord = none ∧ (t.link l).acceptedWord = none ∧
      (t.link l).replies = [] ∧ (t.link l).renegotiateDue = false ∧
      (t.link l).latchedLevel = some (maxRecordLevel s) ∧
      (t.link l).timeout = some (addInterval s.now 100000) ∧ t.auth.holder ≠ some l ∧ PeerTold l s t)

/-- REINITIALIZE, from a link authority lets through and with no store operation in flight, is answered OK in
every engine state; its restart is due when its reply's last byte has been sent. The restart gives every
volatile block its value after REINITIALIZE, keeps the timebase, straps, fail mask, flash, page buffer,
disabled mark and a frame being sent, and begins the marker read. That read protection keeps its value until that read
is the model's choice (log 18). -/
def Obligations.ReinitializeRuns : Prop :=
  ((∀ l t (s : State), Serves l s → MayCommand l s → s.store.op = none →
     exec (.reinitialize l t []) s = .next (settle (joinReply l 0x17 [0x00]
       { received l t s with seq := { s.seq with reinit := .replying l } }))) ∧
   (∀ l since (s : State), (s.link l).sending = some (⟨0x17, [0]⟩, since) → s.seq.reinit = .replying l →
     ∃ t, exec (.transmitEnd l) s = .next t ∧ t.seq = { s.seq with reinit := .due } ∧
       t.link l = { s.link l with sending := none } ∧ t.link (otherLink l) = s.link (otherLink l))) ∧
  (∀ s : State, s.seq.reinit = .due →
     ∃ t, exec .reinitializeRestart s = .next t ∧
       t.seq = { s.seq with phase := .marker true s.now, cause := .reinit, reinit := .idle } ∧
       t.front = .reset s.seq.straps ∧ t.timing = .reset s.now ∧
       t.store = .reset s.store.flash s.store.pageBuffer s.store.readProtection ∧
       t.cache = .reset s.cache.disabled ∧ t.engine = .reset ∧
       (∀ l, t.link l = { LinkUnit.reset with sending := (s.link l).sending }) ∧ t.auth = .reset ∧
       ∀ l, enableWord t l = 0xFFFF ∧
         pendingWord t l = Event.mask .tableMissing ||| maskIf (s.seq.failMask != 0) .selfTestFail)

/-! ### Authority -/

/-- A resolution follows the table of R161, row by row and with either link in either place: it names a holder,
none, a conflict or the equal-seed result. A resolution that names the holder there is raises nothing, and one
that names another raises AUTHORITY_CHANGED. An equal-seed result counts one up and restarts both links, or at the
seventh is a conflict that leaves them UP. -/
def Obligations.ResolutionFollowsTheClaims : Prop :=
  (resolution none none = .holder none) ∧
  (∀ w : MasterWord, w.claim ≠ .decline →
    resolution (some w) none = .holder (some .body) ∧ resolution none (some w) = .holder (some .accessory)) ∧
  (∀ w : MasterWord, w.claim = .decline →
    resolution (some w) none = .holder none ∧ resolution none (some w) = .holder none) ∧
  (∀ b a : MasterWord,
    (b.claim = .claim → a.claim = .claim → resolution (some b) (some a) = .conflict) ∧
    (b.claim = .claim → a.claim ≠ .claim → resolution (some b) (some a) = .holder (some .body)) ∧
    (b.claim ≠ .claim → a.claim = .claim → resolution (some b) (some a) = .holder (some .accessory)) ∧
    (b.claim = .auto → a.claim = .decline → resolution (some b) (some a) = .holder (some .body)) ∧
    (b.claim = .decline → a.claim = .auto → resolution (some b) (some a) = .holder (some .accessory)) ∧
    (b.claim = .auto → a.claim = .auto → a.seed < b.seed →
      resolution (some b) (some a) = .holder (some .body)) ∧
    (b.claim = .auto → a.claim = .auto → b.seed < a.seed →
      resolution (some b) (some a) = .holder (some .accessory)) ∧
    (b.claim = .auto → a.claim = .auto → a.seed = b.seed → resolution (some b) (some a) = .equalSeeds) ∧
    (b.claim = .decline → a.claim = .decline → resolution (some b) (some a) = .holder none)) ∧
  (∀ s : State,
    let r := resolution (upWord (s.link .body)) (upWord (s.link .accessory))
    (∀ h, r = .holder h → (resolveAuthority s).auth.holder = h ∧ (resolveAuthority s).auth.conflict = false ∧
      (resolveAuthority s).links = s.links ∧
      (resolveAuthority s).events = (if s.auth.holder = h then s else raise .authorityChanged s).events) ∧
    (r = .conflict → (resolveAuthority s).auth.holder = none ∧ (resolveAuthority s).auth.conflict = true) ∧
    (r = .equalSeeds → (resolveAuthority s).auth.holder = none ∧
      (s.auth.equalSeeds < 6 → (resolveAuthority s).auth.conflict = false ∧
        (resolveAuthority s).auth.equalSeeds = s.auth.equalSeeds + 1 ∧
        ∀ l, ((resolveAuthority s).link l).state = .abilityDetect) ∧
      (6 ≤ s.auth.equalSeeds → (resolveAuthority s).auth.conflict = true ∧
        (resolveAuthority s).auth.equalSeeds = 7 ∧ (resolveAuthority s).links = s.links)))

/-! ### Requests -/

/-- A request frame outside UP, or during start-up, does nothing but let time pass and its parser hunt. One in UP
that finds four replies, or REINITIALIZE before its restart, has no effect but its time, the parser and the
250 ms timeout; the full list alone raises FRAME_REJECTED, on this link. -/
def Obligations.RequestsNotTakenHaveNoEffect : Prop :=
  (∀ (c : Instr) (l : Link) (t : Instant) (s : State), requestOf c = some (l, t) → c.wellFormed = true →
     s.isHeld = false → s.started = false ∨ (s.link l).state ≠ .up →
     exec c s = .next (settle { s with
       timing := { s.timing with timebase := laterOf t s.now },
       links := s.links.set l { s.link l with parser := .hunting } })) ∧
  (∀ (c : Instr) (l : Link) (t : Instant) (s : State), requestOf c = some (l, t) → c.wellFormed = true →
     s.started = true → (s.link l).state = .up →
     (s.seq.reinit ≠ .idle → exec c s = .next (settle (received l t s))) ∧
     (s.seq.reinit = .idle → replyListFull l s = true →
       exec c s = .next (settle (raiseOn l .frameRejected (received l t s)))))

/-- IDENTIFY, READ STATUS, READ POSITION, CACHE STATUS, DUMP CACHE and READ MODE SET are answered OK with their
fields, from either link, in every engine state. A read request changes no register, no setting, no cell, no mark
and no byte: only time, its own link's unit, pending words and the model's free counter may differ. -/
def Obligations.ReadRequestsAreAnswered : Prop :=
  (∀ (l : Link) (t : Instant) (s : State), Serves l s →
     let b := received l t s
     exec (.identify l t []) s = .next (settle (joinReply l 0x10 (0 :: identifyFields b) b)) ∧
     exec (.readStatus l t []) s =
       .next (settle (joinReply l 0x11 (0 :: statusFields b) { b with free := b.free + 1 })) ∧
     exec (.readPosition l t []) s = .next (settle (joinReply l 0x12 (0 :: positionFields b) b)) ∧
     exec (.cacheStatus l t []) s = .next (settle (joinReply l 0x3A (0 :: cacheFields b.cache) b)) ∧
     (∀ first last : Byte, first.toNat ≤ min 63 last.toNat →
       exec (.dumpCache l t [first, last]) s =
         .next (settle (joinReply l 0x3B (0 :: dumpFields [first, last] b) b))) ∧
     (∀ n : Byte, n.toNat ≤ 3 →
       exec (.readModeSet l t [n]) s =
         .next (settle (joinReply l 0x23 (0 :: n :: readModeFields n.toNat b.engine) b)))) ∧
  (∀ (c : Instr) (l : Link) (t : Instant) (s u : State), readsOnly c = true → requestOf c = some (l, t) →
     exec c s = .next u →
     u.seq = s.seq ∧ u.front = s.front ∧ u.timing = { s.timing with timebase := u.timing.timebase } ∧
     u.store = s.store ∧ u.cache = s.cache ∧ u.engine = s.engine ∧ u.auth = s.auth ∧
     u.link (otherLink l) = s.link (otherLink l) ∧ (u.link l).state = (s.link l).state ∧
     ∀ k, enableWord u k = enableWord s k)

/-- The lengths R189 and R190 give the replies, and where the READ STATUS reply carries the engine state, the
stream, the timebase, the authority and the links. -/
def Obligations.ReplyLayouts : Prop :=
  ∀ s : State,
    (identifyFields s).length = 38 ∧ (positionFields s).length = 36 ∧ (cacheFields s.cache).length = 17 ∧
    (marksFields s.auth.marks).length = 1 + 12 * s.auth.marks.length ∧
    (StoreLaw s →
      let r : List Byte := 0 :: statusFields s
      r.length = 71 ∧ byteAt r 1 = s.engine.state.code ∧ byteAt r 3 = s.timing.stream.code ∧
      (r.drop 15).take 4 = le32 s.now.toNat ∧ byteAt r 30 = (if s.store.readProtection then 1 else 0) ∧
      byteAt r 62 = holderCode s.auth.holder ∧ byteAt r 63 = (if s.auth.conflict then 1 else 0) ∧
      (r.drop 65).take 2 = le16 s.auth.anchor ∧
      byteAt r 68 = (s.link .body).state.code ∧ byteAt r 69 = (s.link .accessory).state.code)

/-- READ MARKS is answered OK with the number of marks and each mark in list order: its id, power, label
length and label. It is refused for nothing but its length. -/
def Obligations.ReadMarksListsTheMarks : Prop :=
  ∀ (l : Link) (t : Instant) (s : State), Serves l s →
    exec (.readMarks l t []) s = .next (settle (joinReply l 0x34
      (0 :: BitVec.ofNat 8 s.auth.marks.length :: s.auth.marks.flatMap fun m =>
        [BitVec.ofNat 8 m.id, BitVec.ofNat 8 m.power, BitVec.ofNat 8 (m.power / 256),
          BitVec.ofNat 8 m.label.length] ++ m.label.take 8 ++ List.replicate (8 - m.label.length) 0#8)
      (received l t s)))

/-- READ EVENTS and SET EVENT ENABLES: the reply carries this link's words, the enable word is replaced whole.
MODIFY EVENTS clears the masked bits of this link's pending word, except a level bit whose condition holds, and
its reply carries the word before and after; its line follows. The other link's words keep all but a level bit whose
condition holds. -/
def Obligations.EventWordsAreServed : Prop :=
  (∀ (l : Link) (t : Instant) (s : State), Serves l s →
     let b := received l t s
     exec (.readEvents l t []) s = .next (settle (joinReply l 0x13
       (0 :: le16 (pendingWord s l).toNat ++ le16 (enableWord s l).toNat) b)) ∧
     ∀ (w : PerLink EventUnit) (x y : Byte), s.events = some w →
       exec (.setEventEnables l t [x, y]) s = .next (settle (joinReply l 0x15
         ([0, x, y] ++ le16 (pendingWord s l).toNat)
         { b with events := some (w.set l { w.get l with enable := y ++ x }) }))) ∧
  (∀ (l : Link) (t : Instant) (x y : Byte) (s : State) (w : PerLink EventUnit), Serves l s → s.events = some w →
     ∃ u v, exec (.modifyEvents l t [x, y]) s = .next u ∧
       v = (w.get l).pending &&& ~~~((y ++ x) &&& ~~~levelWord s) ∧
       u.events = some ⟨raisedUnit 0 (levelWord s) (w.set l { w.get l with pending := v }).body,
         raisedUnit 0 (levelWord s) (w.set l { w.get l with pending := v }).accessory⟩ ∧
       u.links = (joinReply l 0x14 (0 :: le16 (w.get l).pending.toNat ++ le16 v.toNat) (received l t s)).links ∧
       u.seq = s.seq ∧ u.front = s.front ∧ u.store = s.store ∧ u.cache = s.cache ∧ u.engine = s.engine ∧
       u.auth = s.auth)

/-- An event raised on a link sets its bit in that link's pending word, whatever its enable bit, and no other bit
of either link; raised on both, it does so on both. At the end of a command every level bit whose condition holds
is set on both links, and each attention line is at its active level exactly when its two words share a set bit,
the active level being the opposite of the strapped one. -/
def Obligations.EventsLatchAndLinesFollow : Prop :=
  (∀ (l : Link) (e : Event) (s : State) (w : PerLink EventUnit), s.events = some w →
     pendingWord (raiseOn l e s) l = (w.get l).pending ||| BitVec.twoPow 16 e.bit ∧
     pendingWord (raiseOn l e s) (otherLink l) = (w.get (otherLink l)).pending ∧
     (∀ k, enableWord (raiseOn l e s) k = (w.get k).enable) ∧
     raise e s = raiseOn .accessory e (raiseOn .body e s) ∧ raiseOn l e (raiseOn l e s) = raiseOn l e s) ∧
  (∀ (l : Link) (s : State) (w : PerLink EventUnit), s.events = some w →
     pendingWord (settle s) l = (w.get l).pending ||| levelWord s ∧
     enableWord (settle s) l = (w.get l).enable ∧
     (∀ e : Event, e = .axisLost ∨ e = .tableMissing ∨ e = .authorityConflict ∨ e = .selfTestFail →
       ((levelWord s).getLsbD e.bit = true ↔ (match e with
         | .axisLost => ∃ a, s.fitted a = true ∧ (s.front.axes.get a).state = .lost
         | .tableMissing => s.store.breathing = none ∨ s.store.shading = none
         | .authorityConflict => s.auth.conflict = true
         | _ => s.seq.failMask ≠ 0))) ∧
     (attentionLevel (settle s) l = some (!(match l with
         | .body => s.seq.straps.bodyAttention
         | .accessory => s.seq.straps.accessoryAttention)) ↔
       pendingWord (settle s) l &&& enableWord (settle s) l ≠ 0))

/-- FRAME FORMAT from the body link replaces the whole format in force with the clamped fields, in every engine
state, and touches no entry; FRAME INFO replaces E and R alone. -/
def Obligations.FrameFormatIsReplaced : Prop :=
  ∀ (t : Instant) (p : List Byte) (s : State), Serves .body s →
    let b := received .body t s
    (p.length = 22 →
      let f : FrameFormat :=
        ⟨min 30000 (max 1000 (field16 p 0)), min 100000 (field32 p 2), min 200000 (field32 p 6),
          min 100000 (max 500 (field32 p 10)), min 1000000 (max 1 (field32 p 14)), min 100000 (field32 p 18)⟩
      exec (.frameFormat .body t p) s = .next (settle (joinReply .body 0x20
        (0 :: le16 f.hd ++ le32 f.margin ++ le32 f.cropLimit ++ le32 f.dueOffset ++ le32 f.exposure ++
          le32 f.readout) { b with timing := { b.timing with format := f } }))) ∧
    (p.length = 8 →
      let f : FrameFormat := { s.timing.format with
        exposure := min 1000000 (max 1 (field32 p 0)), readout := min 100000 (field32 p 4) }
      exec (.frameInfo .body t p) s = .next (settle (joinReply .body 0x21
        (0 :: le32 f.exposure ++ le32 f.readout) { b with timing := { b.timing with format := f } })))

/-- WRITE MODE SET: the clamped contents come into force at once outside RUNNING and PATTERN and are staged with
count 0 in them, and a staged set comes into force at its second accepted sync. -/
def Obligations.ModeSetIsWritten : Prop :=
  (∀ (l : Link) (t : Instant) (p : List Byte) (s : State), Serves l s → MayCommand l s →
    s.engine.state ≠ .pattern → p.length = 9 → byteAt p 0 = 0 → byteAt p 8 ≤ 1 →
    let m : MS0 := ⟨min 8000 (max 500 (field16 p 1)) / 500 * 500, min 20000 (field16 p 3),
      min 64 (byteAt p 5), min 8000 (max 300 (field16 p 6)), byteAt p 8 == 1⟩
    ∃ u, exec (.writeModeSet l t p) s = .next u ∧
      u.engine.ms0 = (if s.engine.state.runs then ⟨s.engine.ms0.inForce, some ⟨m, 0⟩⟩ else ⟨some m, none⟩) ∧
      u.links = (joinReply l 0x22 ([0, 0] ++ leFlag s.engine.state.runs ++ ms0Fields m)
        (received l t s)).links) ∧
  (∀ (l : Link) (t : Instant) (p : List Byte) (s : State), Serves l s → MayCommand l s →
    s.engine.state ≠ .pattern → p.length = 5 → byteAt p 0 = 1 → byteAt p 4 ≤ 1 →
    let m : MS1 := ⟨min 100 (byteAt p 1), min 50000 (field16 p 2), byteAt p 4 == 1⟩
    ∃ u, exec (.writeModeSet l t p) s = .next u ∧
      u.engine.ms1 = (if s.engine.state.runs then ⟨s.engine.ms1.inForce, some ⟨m, 0⟩⟩ else ⟨some m, none⟩) ∧
      u.links = (joinReply l 0x22 ([0, 1] ++ leFlag s.engine.state.runs ++ ms1Fields m)
        (received l t s)).links) ∧
  (∀ (l : Link) (t : Instant) (p : List Byte) (s : State), Serves l s → MayCommand l s →
    s.engine.state ≠ .pattern → p.length = 4 → byteAt p 0 = 2 →
    let m : MS2 := ⟨min 100 (byteAt p 1), min 32767 (max 4096 (field16 p 2))⟩
    ∃ u, exec (.writeModeSet l t p) s = .next u ∧
      u.engine.ms2 = (if s.engine.state.runs then ⟨s.engine.ms2.inForce, some ⟨m, 0⟩⟩ else ⟨some m, none⟩) ∧
      u.links = (joinReply l 0x22 ([0, 2] ++ leFlag s.engine.state.runs ++ ms2Fields m)
        (received l t s)).links) ∧
  (∀ (t : Instant) (p : List Byte) (s : State), Serves .body s →
    p.length = 5 → byteAt p 0 = 3 → byteAt p 1 ≤ 1 → byteAt p 2 ≤ 1 →
    let m : MS3 := ⟨byteAt p 1 == 1, if byteAt p 2 = 1 then .neutral else .hold,
      min 1000 (max 100 (field16 p 3))⟩
    ∃ u, exec (.writeModeSet .body t p) s = .next u ∧
      u.engine.ms3 = (if s.engine.state.runs then ⟨s.engine.ms3.inForce, some ⟨m, 0⟩⟩ else ⟨some m, none⟩) ∧
      u.links = (joinReply .body 0x22 ([0, 3] ++ leFlag s.engine.state.runs ++ ms3Fields m)
        (received .body t s)).links) ∧
  (∀ (α : Type) (m : ModeSet α) (x : Staged α), m.staged = some x →
    (x.syncs = 0 → m.onSync = ⟨m.inForce, some ⟨x.contents, 1⟩⟩) ∧
    (1 ≤ x.syncs → m.onSync = ⟨some x.contents, none⟩))

/-- SET ANCHOR: from a link authority lets through, outside PATTERN, whatever sector 0 and the store are, the
clamped power becomes the anchor and is the reply; nothing else changes. In PATTERN, or against authority, it is
refused and the anchor stays. ANCHOR HERE takes the last prediction's focus power, else the latest valid
sample's, and is refused NOT_CONFIGURED without sector 0 or either source. -/
def Obligations.AnchorIsSet : Prop :=
  (∀ (l : Link) (t : Instant) (x y : Byte) (s : State), Serves l s →
     let b := received l t s
     let a := min 20000 (x.toNat + 256 * y.toNat)
     (MayCommand l s → s.engine.state ≠ .pattern →
       exec (.setAnchor l t [x, y]) s = .next (settle (joinReply l 0x30 (0 :: le16 a)
         { b with auth := { s.auth with anchor := a } }))) ∧
     (MayCommand l s → s.engine.state = .pattern →
       exec (.setAnchor l t [x, y]) s = .next (settle (joinReply l 0x30 [0x15] b))) ∧
     (s.auth.conflict = true →
       exec (.setAnchor l t [x, y]) s = .next (settle (joinReply l 0x30 [0x13] b))) ∧
     (s.auth.conflict = false → s.auth.holder = some (otherLink l) →
       exec (.setAnchor l t [x, y]) s = .next (settle (joinReply l 0x30 [0x14] b)))) ∧
  (∀ (l : Link) (t : Instant) (s : State), Serves l s → MayCommand l s → s.engine.state ≠ .pattern →
     let b := received l t s
     (∀ q, s.store.sector0Valid = true → s.engine.lastPrediction = some q →
       exec (.anchorHere l t []) s = .next (settle (joinReply l 0x31 (0 :: le16 q.power ++ [0])
         { b with auth := { s.auth with anchor := q.power } }))) ∧
     (∀ r v, s.store.sector0Valid = true → s.engine.lastPrediction = none →
       s.front.axes.focus.latest = some r → r.value = some v →
       exec (.anchorHere l t []) s = .next (settle (joinReply l 0x31 (0 :: le16 v ++ [1])
         { b with auth := { s.auth with anchor := v } }))) ∧
     (s.store.sector0Valid = false ∨ (s.engine.lastPrediction = none ∧
         ∀ r v, s.front.axes.focus.latest = some r → r.value ≠ some v) →
       exec (.anchorHere l t []) s = .next (settle (joinReply l 0x31 [0x1B] b))))

/-- SET MARK and DELETE MARK change the marks list by the one id they name, release a locked path whose
endpoint it is, and say in the reply what happened; an id above 7 is refused OUT_OF_RANGE, and HERE without a
here power NOT_CONFIGURED. -/
def Obligations.MarksAreSetAndDeleted : Prop :=
  ∀ (l : Link) (t : Instant) (id : Byte) (s : State), Serves l s → MayCommand l s → MarksLaw s →
    s.engine.state ≠ .pattern →
    let b := received l t s
    let endpoint := ∃ p, s.cache.walk.ends = some p ∧ (p.1 = id.toNat ∨ p.2 = id.toNat) ∧
      (s.cache.walk.state = .walking ∨ s.cache.walk.state = .done)
    let released := fun (u : State) (flags : Byte) => (flags.getLsbD 1 = true ↔ endpoint) ∧
      (endpoint → u.cache.walk.state = .abandoned ∧ ∀ ways ∈ u.cache.sets, lockedCount ways = 0) ∧
      (¬endpoint → u.cache = s.cache)
    (∀ (p label : List Byte) (a : Nat), id.toNat ≤ 7 → byteAt p 0 = id.toNat →
      (byteAt p 3 = 255 ∧ p.length = 4 ∧ label = ((findMark id.toNat s.auth.marks).map Mark.label).getD []) ∨
        (byteAt p 3 ≤ 8 ∧ p.length = 4 + byteAt p 3 ∧ label = textOf (p.drop 4)) →
      (field16 p 1 ≠ 65535 ∧ a = min 20000 (field16 p 1)) ∨
        (field16 p 1 = 65535 ∧ s.store.sector0Valid = true ∧ (herePower s).map Prod.fst = some a) →
      ∃ u flags, exec (.setMark l t p) s = .next u ∧
        findMark id.toNat u.auth.marks = some ⟨id.toNat, a, label⟩ ∧
        (∀ j, j ≠ id.toNat → findMark j u.auth.marks = findMark j s.auth.marks) ∧ MarksLaw u ∧
        u.auth = { s.auth with marks := u.auth.marks } ∧
        u.links = (joinReply l 0x32 ([0, id] ++ le16 a ++ [flags]) b).links ∧
        (flags.getLsbD 0 = true ↔ (findMark id.toNat s.auth.marks).isSome = true) ∧ released u flags) ∧
    (id.toNat ≤ 7 → s.store.sector0Valid = false ∨ herePower s = none →
      exec (.setMark l t [id, 0xFF, 0xFF, 0xFF]) s = .next (settle (joinReply l 0x32 [0x1B] b))) ∧
    (∀ m, id.toNat ≤ 7 → findMark id.toNat s.auth.marks = some m →
      ∃ u flags, exec (.deleteMark l t [id]) s = .next u ∧ findMark id.toNat u.auth.marks = none ∧
        (∀ j, j ≠ id.toNat → findMark j u.auth.marks = findMark j s.auth.marks) ∧
        u.auth = { s.auth with marks := u.auth.marks } ∧
        u.links = (joinReply l 0x33 [0, flags] b).links ∧ flags.getLsbD 0 = false ∧ released u flags) ∧
    (id.toNat ≤ 7 → findMark id.toNat s.auth.marks = none →
      exec (.deleteMark l t [id]) s = .next (settle (joinReply l 0x33 [0, 1] b))) ∧
    (7 < id.toNat →
      exec (.deleteMark l t [id]) s = .next (settle (joinReply l 0x33 [0x18] b)) ∧
      exec (.setMark l t [id, 0, 0, 0]) s = .next (settle (joinReply l 0x32 [0x18] b)))

/-- LOCK PATH unlocks every entry, forms the plan of R95 and starts its walk, which takes at once the cells
that need no read; its reply carries the planned count. A walk skips a cell whose set holds three locks, locks a cached
one in place, waits at any other, and after the last of its plan is DONE with LOCK_DONE raised on both links. -/
def Obligations.LockPathStartsTheWalk : Prop :=
  (∀ (l : Link) (t : Instant) (x y : Byte) (start stop : Mark) (focal iris : Nat) (s : State),
    Serves l s → MayCommand l s → s.engine.state ≠ .pattern → s.store.sector0Valid = true →
    s.cache.disabled = false → x.toNat ≤ 7 → y.toNat ≤ 7 →
    findMark x.toNat s.auth.marks = some start → findMark y.toNat s.auth.marks = some stop →
    latestFocal s = some focal → latestIris s = some iris →
    let plan := lockPlan s.store.breathing s.store.shading start.power stop.power focal iris
    let b := received l t s
    exec (.lockPath l t [x, y]) s = .next (settle (walkAdvance (joinReply l 0x38
      [0, BitVec.ofNat 8 plan.length]
      { b with
        cache := { unlockAll s.cache with
          walk := ⟨.walking, some (x.toNat, y.toNat), plan, plan.length, 0, 0⟩ },
        store := { s.store with port := dropWalkRead s.store.port } })))) ∧
  (∀ s : State, s.cache.walk.state = .walking →
    let w := s.cache.walk
    let goesOn := fun (sets : List (List Way)) (w : Walk) =>
      walkAdvance s = walkAdvance { s with cache := { s.cache with sets := sets, walk := w } }
    (w.rest = [] → walkAdvance s = { s with
      cache := { s.cache with walk := { w with state := .done } },
      events := s.events.map fun u =>
        let raised := fun v : EventUnit => { v with pending := v.pending ||| Event.mask .lockDone }
        ⟨raised u.body, raised u.accessory⟩ }) ∧
    ∀ k ks, w.rest = k :: ks →
      (3 ≤ lockedCount (setOf k s.cache.sets) →
        goesOn s.cache.sets { w with rest := ks, skipped := w.skipped + 1 }) ∧
      (lockedCount (setOf k s.cache.sets) < 3 → isCached k s.cache = true →
        goesOn (s.cache.sets.set (setIndex k) ((setOf k s.cache.sets).map fun v =>
            if v.holds k then { v with content := v.content.map fun c => { c with locked := true } } else v))
          { w with rest := ks, locked := w.locked + 1 }) ∧
      (lockedCount (setOf k s.cache.sets) < 3 → isCached k s.cache = false → walkAdvance s = s))

/-- UNLOCK unlocks every entry and keeps each valid and in its rank; a WALKING walk becomes ABANDONED, and a
DONE or ABANDONED record returns to IDLE; it is refused in PATTERN and against authority, and not by a disabled
cache. -/
def Obligations.UnlockReleasesEveryEntry : Prop :=
  ∀ (l : Link) (t : Instant) (s : State), Serves l s →
    let b := received l t s
    (MayCommand l s → s.engine.state ≠ .pattern →
      ∃ u, exec (.unlock l t []) s = .next u ∧ u.links = (joinReply l 0x39 [0] b).links ∧
        (∀ ways ∈ u.cache.sets, lockedCount ways = 0) ∧
        (∀ k, isCached k u.cache = isCached k s.cache ∧ cachedCell k u.cache = cachedCell k s.cache) ∧
        u.cache.sets.map (fun ways => ways.map Way.rank) = s.cache.sets.map (fun ways => ways.map Way.rank) ∧
        (s.cache.walk.state = .walking → u.cache.walk = { s.cache.walk with state := .abandoned, rest := [] }) ∧
        (s.cache.walk.state = .done ∨ s.cache.walk.state = .abandoned →
          u.cache.walk = ⟨.idle, none, [], 0, 0, 0⟩) ∧
        (s.cache.walk.state = .idle → u.cache.walk = s.cache.walk) ∧
        u.cache.demand = s.cache.demand ∧ u.cache.prefetch = s.cache.prefetch ∧ u.engine = s.engine ∧
        u.auth = s.auth ∧ u.front = s.front ∧ u.seq = s.seq) ∧
    (MayCommand l s → s.engine.state = .pattern →
      exec (.unlock l t []) s = .next (settle (joinReply l 0x39 [0x15] b))) ∧
    (s.auth.conflict = true → exec (.unlock l t []) s = .next (settle (joinReply l 0x39 [0x13] b))) ∧
    (s.auth.conflict = false → s.auth.holder = some (otherLink l) →
      exec (.unlock l t []) s = .next (settle (joinReply l 0x39 [0x14] b)))

/-- The store operations are taken from the accessory link outside RUNNING and PATTERN with none in flight:
the operation is in flight, ACCEPTED is the reply, an erase or program sets its sector's verdict UNSCANNED and
withdraws what the sector holds, and no byte of flash changes yet. A READ STORE that waits is answered BUSY, before
the ACCEPTED (the order is log 15). CLEAR READ PROTECTION names sector 1 from its taking, the model's choice (log
16). -/
def Obligations.StoreOperationsAreTaken : Prop :=
  ∀ (t : Instant) (s : State), Serves .accessory s → s.engine.state.runs = false → s.store.op = none →
    s.store.readStoreWaiting.length ≤ 1 →
    let b := received .accessory t s
    let busy := fun u : State =>
      if s.store.readStoreWaiting.isEmpty then u else answerReadStore [0x17] u
    let taken := fun o : StoreOp => ({ b with store := { s.store with op := some o, readStoreWaiting := [] } } : State)
    (∀ n : Byte, n.toNat ≤ 6 → (n.toNat = 0 → s.seq.straps.service = true) →
      ∃ u, exec (.eraseSector .accessory t [n]) s = .next u ∧
        u.store.op = some ⟨.eraseSector, some (BitVec.ofNat 3 n.toNat), none, none⟩ ∧
        u.store.verdicts = s.store.verdicts.set n.toNat .unscanned ∧ u.store.flash = s.store.flash ∧
        (∀ k tb, u.active k = some tb → tb.sector.toNat ≠ n.toNat) ∧
        (n.toNat = 0 → u.store.sector0Valid = false ∧ u.front.mapCopy = none ∧
          u.engine.state = .unconfigured) ∧
        u.links = (joinReply .accessory 0x42 [0x01] (busy b)).links ∧ u.auth = s.auth) ∧
    (∀ n p : Byte, n.toNat ≤ 6 → (n.toNat = 0 → s.seq.straps.service = true) →
      ∃ u, exec (.programPage .accessory t [n, p]) s = .next u ∧
        u.store.op = some ⟨.programPage, some (BitVec.ofNat 3 n.toNat), some p, none⟩ ∧
        u.store.verdicts = s.store.verdicts.set n.toNat .unscanned ∧ u.store.flash = s.store.flash ∧
        u.store.pageBuffer = s.store.pageBuffer ∧
        (∀ k tb, u.active k = some tb → tb.sector.toNat ≠ n.toNat) ∧
        u.links = (joinReply .accessory 0x41 [0x01] (busy b)).links ∧ u.auth = s.auth) ∧
    exec (.rescanTables .accessory t []) s = .next (settle (joinReply .accessory 0x43 [0x01]
      (busy (taken ⟨.rescanTables, none, none, none⟩)))) ∧
    exec (.setReadProtection .accessory t []) s = .next (settle (joinReply .accessory 0x45 [0x01]
      (busy (taken ⟨.setReadProtection, none, none, none⟩)))) ∧
    exec (.clearReadProtection .accessory t []) s = .next (settle (joinReply .accessory 0x46 [0x01]
      (busy (taken ⟨.clearReadProtection, some 1, none, none⟩))))

/-- LOAD PAGE BUFFER writes its bytes from the offset and keeps the others; READ STORE joins the list of those
that wait for the port, and gets no reply yet. -/
def Obligations.PageBufferAndReadStore : Prop :=
  ∀ (t : Instant) (s : State), Serves .accessory s → StoreLaw s → s.store.op = none →
    let b := received .accessory t s
    (∀ (o : Byte) (data : List Byte), s.engine.state.runs = false → 1 ≤ data.length → data.length ≤ 128 →
      o.toNat + data.length ≤ 256 →
      ∃ u, exec (.loadPageBuffer .accessory t (o :: data)) s = .next u ∧
        u.links = (joinReply .accessory 0x40 [0x00] b).links ∧
        u.store = { s.store with pageBuffer := u.store.pageBuffer } ∧ u.store.pageBuffer.length = 256 ∧
        (∀ i < 256, u.store.pageBuffer.getD i 0 =
          if o.toNat ≤ i ∧ i < o.toNat + data.length then data.getD (i - o.toNat) 0
          else s.store.pageBuffer.getD i 0) ∧
        u.cache = s.cache ∧ u.engine = s.engine ∧ u.auth = s.auth) ∧
    (∀ n x y c : Byte, readStoreOutstanding s = false → n.toNat ≤ 7 → 1 ≤ c.toNat → c.toNat ≤ 128 →
      x.toNat + 256 * y.toNat + c.toNat ≤ 65536 → (n.toNat = 0 ∨ s.store.readProtection = false) →
      exec (.readStore .accessory t [n, x, y, c]) s = .next (settle { b with store := { s.store with
        readStoreWaiting := s.store.readStoreWaiting ++
          [⟨BitVec.ofNat 3 n.toNat, BitVec.ofNat 16 (x.toNat + 256 * y.toNat), c.toNat⟩] } }))

/-- A refusal is the code alone and has no other effect. A payload of a wrong length is refused BAD_LENGTH and a
frame of an unknown kind UNKNOWN_KIND; then, in the order of ranks, NOT_PERMITTED for the wrong link, CONFLICT and
NOT_AUTHORITY, PATTERN_ACTIVE, ENGINE_ACTIVE and BUSY, and a parameter. The refusal of a READ
STORE taken while an earlier one is unanswered is held back for the earlier one's reply (log 33). -/
def Obligations.RefusalsFollowTheirRank : Prop :=
  (∀ (l : Link) (t : Instant) (p : List Byte) (s : State), Serves l s →
     let refused := fun (k c : Byte) => (.next (settle (joinReply l k [c] (received l t s))) : Result)
     (p.length ≠ 0 →
       exec (.identify l t p) s = refused 0x10 0x10 ∧ exec (.readStatus l t p) s = refused 0x11 0x10 ∧
       exec (.readPosition l t p) s = refused 0x12 0x10 ∧ exec (.readEvents l t p) s = refused 0x13 0x10 ∧
       exec (.renegotiate l t p) s = refused 0x16 0x10 ∧ exec (.reinitialize l t p) s = refused 0x17 0x10 ∧
       exec (.anchorHere l t p) s = refused 0x31 0x10 ∧ exec (.readMarks l t p) s = refused 0x34 0x10 ∧
       exec (.unlock l t p) s = refused 0x39 0x10 ∧ exec (.cacheStatus l t p) s = refused 0x3A 0x10 ∧
       exec (.rescanTables l t p) s = refused 0x43 0x10 ∧
       exec (.setReadProtection l t p) s = refused 0x45 0x10 ∧
       exec (.clearReadProtection l t p) s = refused 0x46 0x10) ∧
     (p.length ≠ 1 → exec (.readModeSet l t p) s = refused 0x23 0x10 ∧
       exec (.deleteMark l t p) s = refused 0x33 0x10 ∧ exec (.eraseSector l t p) s = refused 0x42 0x10) ∧
     (p.length ≠ 2 → exec (.modifyEvents l t p) s = refused 0x14 0x10 ∧
       exec (.setEventEnables l t p) s = refused 0x15 0x10 ∧ exec (.setAnchor l t p) s = refused 0x30 0x10 ∧
       exec (.lockPath l t p) s = refused 0x38 0x10 ∧ exec (.dumpCache l t p) s = refused 0x3B 0x10 ∧
       exec (.programPage l t p) s = refused 0x41 0x10) ∧
     (p.length ≠ 4 → l = .body ∨ readStoreOutstanding s = false → exec (.readStore l t p) s = refused 0x44 0x10) ∧
     (p.length ≠ 8 → exec (.frameInfo l t p) s = refused 0x21 0x10) ∧
     (p.length ≠ 22 → exec (.frameFormat l t p) s = refused 0x20 0x10) ∧
     (p.length < 2 ∨ 129 < p.length → exec (.loadPageBuffer l t p) s = refused 0x40 0x10) ∧
     (p.length < 4 → exec (.setMark l t p) s = refused 0x32 0x10) ∧
     (∀ k, kindUnknown k = true → exec (.unknownKindRequest l t k p) s = refused k 0x11)) ∧
  (∀ (l : Link) (t : Instant) (p : List Byte) (s : State), Serves l s →
     let refused := fun (k c : Byte) => (.next (settle (joinReply l k [c] (received l t s))) : Result)
     (l = .accessory → (p.length = 22 → exec (.frameFormat l t p) s = refused 0x20 0x12) ∧
       (p.length = 8 → exec (.frameInfo l t p) s = refused 0x21 0x12) ∧
       (p.length = 5 → byteAt p 0 = 3 → exec (.writeModeSet l t p) s = refused 0x22 0x12)) ∧
     (l = .body → (p.length = 1 → exec (.eraseSector l t p) s = refused 0x42 0x12) ∧
       (p.length = 2 → exec (.programPage l t p) s = refused 0x41 0x12) ∧
       (p.length = 4 → exec (.readStore l t p) s = refused 0x44 0x12) ∧
       (2 ≤ p.length ∧ p.length ≤ 129 → exec (.loadPageBuffer l t p) s = refused 0x40 0x12)) ∧
     (∀ c, (s.auth.conflict = true ∧ c = 0x13) ∨
         (s.auth.conflict = false ∧ s.auth.holder = some (otherLink l) ∧ c = 0x14) ∨
         (MayCommand l s ∧ s.engine.state = .pattern ∧ c = 0x15) →
       exec (.anchorHere l t []) s = refused 0x31 c ∧
       (p.length = 1 → exec (.deleteMark l t p) s = refused 0x33 c) ∧
       (p.length = 2 → exec (.lockPath l t p) s = refused 0x38 c) ∧
       (p.length = 9 → byteAt p 0 = 0 → exec (.writeModeSet l t p) s = refused 0x22 c)) ∧
     (∀ c, l = .accessory → (s.engine.state = .pattern ∧ c = 0x15) ∨ (s.engine.state = .running ∧ c = 0x16) ∨
         (s.engine.state.runs = false ∧ s.store.op.isSome = true ∧ c = 0x17) →
       exec (.rescanTables l t []) s = refused 0x43 c ∧ exec (.setReadProtection l t []) s = refused 0x45 c ∧
       exec (.clearReadProtection l t []) s = refused 0x46 c ∧
       (p.length = 1 → exec (.eraseSector l t p) s = refused 0x42 c) ∧
       (p.length = 2 → exec (.programPage l t p) s = refused 0x41 c)) ∧
     (l = .accessory → readStoreOutstanding s = true →
       ∀ c : Byte, (p.length ≠ 4 ∧ c = 0x10) ∨ (p.length = 4 ∧ c = 0x17) →
       exec (.readStore l t p) s = .next (settle ((received l t s).setLink l
         { (received l t s).link l with heldBack := (s.link l).heldBack ++ [⟨0x44, [c]⟩] }))) ∧
     (l = .accessory → s.engine.state.runs = false → s.store.op = none → p.length = 1 →
       (7 < byteAt p 0 → exec (.eraseSector l t p) s = refused 0x42 0x18) ∧
       (byteAt p 0 = 7 ∨ (byteAt p 0 = 0 ∧ s.seq.straps.service = false) →
         exec (.eraseSector l t p) s = refused 0x42 0x1A)) ∧
     (p.length = 1 → 3 < byteAt p 0 → exec (.readModeSet l t p) s = refused 0x23 0x18) ∧
     (MayCommand l s → s.engine.state ≠ .pattern → p.length = 2 →
       (7 < byteAt p 0 ∨ 7 < byteAt p 1 → exec (.lockPath l t p) s = refused 0x38 0x18)))

end
end

