-- ==== Sys2Proof/Laws/State.lean ====
section
/-! SUPPORT. One lemma for each field and each update of State, true by rfl. -/

namespace Sys2Proof.Machine

@[simp] theorem pending_setFree (x) (s : State) : (s.setFree x).pending = s.pending := rfl
@[simp] theorem free_setFree (x) (s : State) : (s.setFree x).free = x := rfl
@[simp] theorem seq_setFree (x) (s : State) : (s.setFree x).seq = s.seq := rfl
@[simp] theorem front_setFree (x) (s : State) : (s.setFree x).front = s.front := rfl
@[simp] theorem timing_setFree (x) (s : State) : (s.setFree x).timing = s.timing := rfl
@[simp] theorem store_setFree (x) (s : State) : (s.setFree x).store = s.store := rfl
@[simp] theorem cache_setFree (x) (s : State) : (s.setFree x).cache = s.cache := rfl
@[simp] theorem engine_setFree (x) (s : State) : (s.setFree x).engine = s.engine := rfl
@[simp] theorem links_setFree (x) (s : State) : (s.setFree x).links = s.links := rfl
@[simp] theorem auth_setFree (x) (s : State) : (s.setFree x).auth = s.auth := rfl
@[simp] theorem events_setFree (x) (s : State) : (s.setFree x).events = s.events := rfl

@[simp] theorem pending_setSeq (x) (s : State) : (s.setSeq x).pending = s.pending := rfl
@[simp] theorem free_setSeq (x) (s : State) : (s.setSeq x).free = s.free := rfl
@[simp] theorem seq_setSeq (x) (s : State) : (s.setSeq x).seq = x := rfl
@[simp] theorem front_setSeq (x) (s : State) : (s.setSeq x).front = s.front := rfl
@[simp] theorem timing_setSeq (x) (s : State) : (s.setSeq x).timing = s.timing := rfl
@[simp] theorem store_setSeq (x) (s : State) : (s.setSeq x).store = s.store := rfl
@[simp] theorem cache_setSeq (x) (s : State) : (s.setSeq x).cache = s.cache := rfl
@[simp] theorem engine_setSeq (x) (s : State) : (s.setSeq x).engine = s.engine := rfl
@[simp] theorem links_setSeq (x) (s : State) : (s.setSeq x).links = s.links := rfl
@[simp] theorem auth_setSeq (x) (s : State) : (s.setSeq x).auth = s.auth := rfl
@[simp] theorem events_setSeq (x) (s : State) : (s.setSeq x).events = s.events := rfl

@[simp] theorem pending_setFront (x) (s : State) : (s.setFront x).pending = s.pending := rfl
@[simp] theorem free_setFront (x) (s : State) : (s.setFront x).free = s.free := rfl
@[simp] theorem seq_setFront (x) (s : State) : (s.setFront x).seq = s.seq := rfl
@[simp] theorem front_setFront (x) (s : State) : (s.setFront x).front = x := rfl
@[simp] theorem timing_setFront (x) (s : State) : (s.setFront x).timing = s.timing := rfl
@[simp] theorem store_setFront (x) (s : State) : (s.setFront x).store = s.store := rfl
@[simp] theorem cache_setFront (x) (s : State) : (s.setFront x).cache = s.cache := rfl
@[simp] theorem engine_setFront (x) (s : State) : (s.setFront x).engine = s.engine := rfl
@[simp] theorem links_setFront (x) (s : State) : (s.setFront x).links = s.links := rfl
@[simp] theorem auth_setFront (x) (s : State) : (s.setFront x).auth = s.auth := rfl
@[simp] theorem events_setFront (x) (s : State) : (s.setFront x).events = s.events := rfl

@[simp] theorem pending_setTiming (x) (s : State) : (s.setTiming x).pending = s.pending := rfl
@[simp] theorem free_setTiming (x) (s : State) : (s.setTiming x).free = s.free := rfl
@[simp] theorem seq_setTiming (x) (s : State) : (s.setTiming x).seq = s.seq := rfl
@[simp] theorem front_setTiming (x) (s : State) : (s.setTiming x).front = s.front := rfl
@[simp] theorem timing_setTiming (x) (s : State) : (s.setTiming x).timing = x := rfl
@[simp] theorem store_setTiming (x) (s : State) : (s.setTiming x).store = s.store := rfl
@[simp] theorem cache_setTiming (x) (s : State) : (s.setTiming x).cache = s.cache := rfl
@[simp] theorem engine_setTiming (x) (s : State) : (s.setTiming x).engine = s.engine := rfl
@[simp] theorem links_setTiming (x) (s : State) : (s.setTiming x).links = s.links := rfl
@[simp] theorem auth_setTiming (x) (s : State) : (s.setTiming x).auth = s.auth := rfl
@[simp] theorem events_setTiming (x) (s : State) : (s.setTiming x).events = s.events := rfl

@[simp] theorem pending_setStore (x) (s : State) : (s.setStore x).pending = s.pending := rfl
@[simp] theorem free_setStore (x) (s : State) : (s.setStore x).free = s.free := rfl
@[simp] theorem seq_setStore (x) (s : State) : (s.setStore x).seq = s.seq := rfl
@[simp] theorem front_setStore (x) (s : State) : (s.setStore x).front = s.front := rfl
@[simp] theorem timing_setStore (x) (s : State) : (s.setStore x).timing = s.timing := rfl
@[simp] theorem store_setStore (x) (s : State) : (s.setStore x).store = x := rfl
@[simp] theorem cache_setStore (x) (s : State) : (s.setStore x).cache = s.cache := rfl
@[simp] theorem engine_setStore (x) (s : State) : (s.setStore x).engine = s.engine := rfl
@[simp] theorem links_setStore (x) (s : State) : (s.setStore x).links = s.links := rfl
@[simp] theorem auth_setStore (x) (s : State) : (s.setStore x).auth = s.auth := rfl
@[simp] theorem events_setStore (x) (s : State) : (s.setStore x).events = s.events := rfl

@[simp] theorem pending_setCache (x) (s : State) : (s.setCache x).pending = s.pending := rfl
@[simp] theorem free_setCache (x) (s : State) : (s.setCache x).free = s.free := rfl
@[simp] theorem seq_setCache (x) (s : State) : (s.setCache x).seq = s.seq := rfl
@[simp] theorem front_setCache (x) (s : State) : (s.setCache x).front = s.front := rfl
@[simp] theorem timing_setCache (x) (s : State) : (s.setCache x).timing = s.timing := rfl
@[simp] theorem store_setCache (x) (s : State) : (s.setCache x).store = s.store := rfl
@[simp] theorem cache_setCache (x) (s : State) : (s.setCache x).cache = x := rfl
@[simp] theorem engine_setCache (x) (s : State) : (s.setCache x).engine = s.engine := rfl
@[simp] theorem links_setCache (x) (s : State) : (s.setCache x).links = s.links := rfl
@[simp] theorem auth_setCache (x) (s : State) : (s.setCache x).auth = s.auth := rfl
@[simp] theorem events_setCache (x) (s : State) : (s.setCache x).events = s.events := rfl

@[simp] theorem pending_setEngine (x) (s : State) : (s.setEngine x).pending = s.pending := rfl
@[simp] theorem free_setEngine (x) (s : State) : (s.setEngine x).free = s.free := rfl
@[simp] theorem seq_setEngine (x) (s : State) : (s.setEngine x).seq = s.seq := rfl
@[simp] theorem front_setEngine (x) (s : State) : (s.setEngine x).front = s.front := rfl
@[simp] theorem timing_setEngine (x) (s : State) : (s.setEngine x).timing = s.timing := rfl
@[simp] theorem store_setEngine (x) (s : State) : (s.setEngine x).store = s.store := rfl
@[simp] theorem cache_setEngine (x) (s : State) : (s.setEngine x).cache = s.cache := rfl
@[simp] theorem engine_setEngine (x) (s : State) : (s.setEngine x).engine = x := rfl
@[simp] theorem links_setEngine (x) (s : State) : (s.setEngine x).links = s.links := rfl
@[simp] theorem auth_setEngine (x) (s : State) : (s.setEngine x).auth = s.auth := rfl
@[simp] theorem events_setEngine (x) (s : State) : (s.setEngine x).events = s.events := rfl

@[simp] theorem pending_setLinks (x) (s : State) : (s.setLinks x).pending = s.pending := rfl
@[simp] theorem free_setLinks (x) (s : State) : (s.setLinks x).free = s.free := rfl
@[simp] theorem seq_setLinks (x) (s : State) : (s.setLinks x).seq = s.seq := rfl
@[simp] theorem front_setLinks (x) (s : State) : (s.setLinks x).front = s.front := rfl
@[simp] theorem timing_setLinks (x) (s : State) : (s.setLinks x).timing = s.timing := rfl
@[simp] theorem store_setLinks (x) (s : State) : (s.setLinks x).store = s.store := rfl
@[simp] theorem cache_setLinks (x) (s : State) : (s.setLinks x).cache = s.cache := rfl
@[simp] theorem engine_setLinks (x) (s : State) : (s.setLinks x).engine = s.engine := rfl
@[simp] theorem links_setLinks (x) (s : State) : (s.setLinks x).links = x := rfl
@[simp] theorem auth_setLinks (x) (s : State) : (s.setLinks x).auth = s.auth := rfl
@[simp] theorem events_setLinks (x) (s : State) : (s.setLinks x).events = s.events := rfl

@[simp] theorem pending_setAuth (x) (s : State) : (s.setAuth x).pending = s.pending := rfl
@[simp] theorem free_setAuth (x) (s : State) : (s.setAuth x).free = s.free := rfl
@[simp] theorem seq_setAuth (x) (s : State) : (s.setAuth x).seq = s.seq := rfl
@[simp] theorem front_setAuth (x) (s : State) : (s.setAuth x).front = s.front := rfl
@[simp] theorem timing_setAuth (x) (s : State) : (s.setAuth x).timing = s.timing := rfl
@[simp] theorem store_setAuth (x) (s : State) : (s.setAuth x).store = s.store := rfl
@[simp] theorem cache_setAuth (x) (s : State) : (s.setAuth x).cache = s.cache := rfl
@[simp] theorem engine_setAuth (x) (s : State) : (s.setAuth x).engine = s.engine := rfl
@[simp] theorem links_setAuth (x) (s : State) : (s.setAuth x).links = s.links := rfl
@[simp] theorem auth_setAuth (x) (s : State) : (s.setAuth x).auth = x := rfl
@[simp] theorem events_setAuth (x) (s : State) : (s.setAuth x).events = s.events := rfl

@[simp] theorem pending_setEvents (x) (s : State) : (s.setEvents x).pending = s.pending := rfl
@[simp] theorem free_setEvents (x) (s : State) : (s.setEvents x).free = s.free := rfl
@[simp] theorem seq_setEvents (x) (s : State) : (s.setEvents x).seq = s.seq := rfl
@[simp] theorem front_setEvents (x) (s : State) : (s.setEvents x).front = s.front := rfl
@[simp] theorem timing_setEvents (x) (s : State) : (s.setEvents x).timing = s.timing := rfl
@[simp] theorem store_setEvents (x) (s : State) : (s.setEvents x).store = s.store := rfl
@[simp] theorem cache_setEvents (x) (s : State) : (s.setEvents x).cache = s.cache := rfl
@[simp] theorem engine_setEvents (x) (s : State) : (s.setEvents x).engine = s.engine := rfl
@[simp] theorem links_setEvents (x) (s : State) : (s.setEvents x).links = s.links := rfl
@[simp] theorem auth_setEvents (x) (s : State) : (s.setEvents x).auth = s.auth := rfl
@[simp] theorem events_setEvents (x) (s : State) : (s.setEvents x).events = x := rfl

@[simp] theorem now_setFree (x) (s : State) : (s.setFree x).now = s.now := rfl
@[simp] theorem now_setSeq (x) (s : State) : (s.setSeq x).now = s.now := rfl
@[simp] theorem now_setFront (x) (s : State) : (s.setFront x).now = s.now := rfl
@[simp] theorem now_setStore (x) (s : State) : (s.setStore x).now = s.now := rfl
@[simp] theorem now_setCache (x) (s : State) : (s.setCache x).now = s.now := rfl
@[simp] theorem now_setEngine (x) (s : State) : (s.setEngine x).now = s.now := rfl
@[simp] theorem now_setLinks (x) (s : State) : (s.setLinks x).now = s.now := rfl
@[simp] theorem now_setAuth (x) (s : State) : (s.setAuth x).now = s.now := rfl
@[simp] theorem now_setEvents (x) (s : State) : (s.setEvents x).now = s.now := rfl
@[simp] theorem isHeld_setFree (x) (s : State) : (s.setFree x).isHeld = s.isHeld := rfl
@[simp] theorem isHeld_setFront (x) (s : State) : (s.setFront x).isHeld = s.isHeld := rfl
@[simp] theorem isHeld_setTiming (x) (s : State) : (s.setTiming x).isHeld = s.isHeld := rfl
@[simp] theorem isHeld_setStore (x) (s : State) : (s.setStore x).isHeld = s.isHeld := rfl
@[simp] theorem isHeld_setCache (x) (s : State) : (s.setCache x).isHeld = s.isHeld := rfl
@[simp] theorem isHeld_setEngine (x) (s : State) : (s.setEngine x).isHeld = s.isHeld := rfl
@[simp] theorem isHeld_setLinks (x) (s : State) : (s.setLinks x).isHeld = s.isHeld := rfl
@[simp] theorem isHeld_setAuth (x) (s : State) : (s.setAuth x).isHeld = s.isHeld := rfl
@[simp] theorem isHeld_setEvents (x) (s : State) : (s.setEvents x).isHeld = s.isHeld := rfl
@[simp] theorem started_setFree (x) (s : State) : (s.setFree x).started = s.started := rfl
@[simp] theorem started_setFront (x) (s : State) : (s.setFront x).started = s.started := rfl
@[simp] theorem started_setTiming (x) (s : State) : (s.setTiming x).started = s.started := rfl
@[simp] theorem started_setStore (x) (s : State) : (s.setStore x).started = s.started := rfl
@[simp] theorem started_setCache (x) (s : State) : (s.setCache x).started = s.started := rfl
@[simp] theorem started_setEngine (x) (s : State) : (s.setEngine x).started = s.started := rfl
@[simp] theorem started_setLinks (x) (s : State) : (s.setLinks x).started = s.started := rfl
@[simp] theorem started_setAuth (x) (s : State) : (s.setAuth x).started = s.started := rfl
@[simp] theorem started_setEvents (x) (s : State) : (s.setEvents x).started = s.started := rfl
@[simp] theorem fitted_setFree (x) (s : State) : (s.setFree x).fitted = s.fitted := rfl
@[simp] theorem fitted_setFront (x) (s : State) : (s.setFront x).fitted = s.fitted := rfl
@[simp] theorem fitted_setTiming (x) (s : State) : (s.setTiming x).fitted = s.fitted := rfl
@[simp] theorem fitted_setStore (x) (s : State) : (s.setStore x).fitted = s.fitted := rfl
@[simp] theorem fitted_setCache (x) (s : State) : (s.setCache x).fitted = s.fitted := rfl
@[simp] theorem fitted_setEngine (x) (s : State) : (s.setEngine x).fitted = s.fitted := rfl
@[simp] theorem fitted_setLinks (x) (s : State) : (s.setLinks x).fitted = s.fitted := rfl
@[simp] theorem fitted_setAuth (x) (s : State) : (s.setAuth x).fitted = s.fitted := rfl
@[simp] theorem fitted_setEvents (x) (s : State) : (s.setEvents x).fitted = s.fitted := rfl
@[simp] theorem link_setFree (x) (s : State) : (s.setFree x).link = s.link := rfl
@[simp] theorem link_setSeq (x) (s : State) : (s.setSeq x).link = s.link := rfl
@[simp] theorem link_setFront (x) (s : State) : (s.setFront x).link = s.link := rfl
@[simp] theorem link_setTiming (x) (s : State) : (s.setTiming x).link = s.link := rfl
@[simp] theorem link_setStore (x) (s : State) : (s.setStore x).link = s.link := rfl
@[simp] theorem link_setCache (x) (s : State) : (s.setCache x).link = s.link := rfl
@[simp] theorem link_setEngine (x) (s : State) : (s.setEngine x).link = s.link := rfl
@[simp] theorem link_setAuth (x) (s : State) : (s.setAuth x).link = s.link := rfl
@[simp] theorem link_setEvents (x) (s : State) : (s.setEvents x).link = s.link := rfl
@[simp] theorem active_setFree (x) (s : State) : (s.setFree x).active = s.active := rfl
@[simp] theorem active_setSeq (x) (s : State) : (s.setSeq x).active = s.active := rfl
@[simp] theorem active_setFront (x) (s : State) : (s.setFront x).active = s.active := rfl
@[simp] theorem active_setTiming (x) (s : State) : (s.setTiming x).active = s.active := rfl
@[simp] theorem active_setCache (x) (s : State) : (s.setCache x).active = s.active := rfl
@[simp] theorem active_setEngine (x) (s : State) : (s.setEngine x).active = s.active := rfl
@[simp] theorem active_setLinks (x) (s : State) : (s.setLinks x).active = s.active := rfl
@[simp] theorem active_setAuth (x) (s : State) : (s.setAuth x).active = s.active := rfl
@[simp] theorem active_setEvents (x) (s : State) : (s.setEvents x).active = s.active := rfl

/-! ### Per link and per axis -/

@[simp] theorem get_set_same {α : Type} (p : PerLink α) (l : Link) (x : α) : (p.set l x).get l = x := by
  cases l <;> rfl

@[simp] theorem get_set_body {α : Type} (p : PerLink α) (x : α) : (p.set .body x).get .accessory = p.get .accessory := rfl

@[simp] theorem get_set_accessory {α : Type} (p : PerLink α) (x : α) : (p.set .accessory x).get .body = p.get .body := rfl

@[simp] theorem get_set_other {α : Type} (p : PerLink α) (l : Link) (x : α) :
    (p.set l x).get (otherLink l) = p.get (otherLink l) := by
  cases l <;> rfl

@[simp] theorem set_get_same {α : Type} (p : PerLink α) (l : Link) : p.set l (p.get l) = p := by cases l <;> rfl

@[simp] theorem set_set_same {α : Type} (p : PerLink α) (l : Link) (x y : α) : (p.set l x).set l y = p.set l y := by
  cases l <;> rfl

@[simp] theorem axis_get_set_same {α : Type} (p : PerAxis α) (a : Axis) (x : α) : (p.set a x).get a = x := by
  cases a <;> rfl

theorem axis_get_set_of_ne {α : Type} (p : PerAxis α) {a b : Axis} (x : α) (h : b ≠ a) : (p.set a x).get b = p.get b := by
  cases a <;> cases b <;> first | rfl | exact absurd rfl h

@[simp] theorem link_setLink_same (l : Link) (u : LinkUnit) (s : State) : (s.setLink l u).link l = u := by
  simp [State.setLink, State.link]

@[simp] theorem link_setLink_other (l : Link) (u : LinkUnit) (s : State) :
    (s.setLink l u).link (otherLink l) = s.link (otherLink l) := by
  simp [State.setLink, State.link]

theorem link_setLink_of_ne {l m : Link} (u : LinkUnit) (s : State) (h : m ≠ l) : (s.setLink l u).link m = s.link m := by
  cases l <;> cases m <;> first | rfl | exact absurd rfl h

@[simp] theorem setLink_setLink (l : Link) (u v : LinkUnit) (s : State) :
    (s.setLink l u).setLink l v = s.setLink l v := by
  simp [State.setLink, State.setLinks]

@[simp] theorem link_setLinks (x) (s : State) : (s.setLinks x).link = x.get := rfl

@[simp] theorem pending_setLink (l u) (s : State) : (s.setLink l u).pending = s.pending := rfl
@[simp] theorem free_setLink (l u) (s : State) : (s.setLink l u).free = s.free := rfl
@[simp] theorem seq_setLink (l u) (s : State) : (s.setLink l u).seq = s.seq := rfl
@[simp] theorem front_setLink (l u) (s : State) : (s.setLink l u).front = s.front := rfl
@[simp] theorem timing_setLink (l u) (s : State) : (s.setLink l u).timing = s.timing := rfl
@[simp] theorem store_setLink (l u) (s : State) : (s.setLink l u).store = s.store := rfl
@[simp] theorem cache_setLink (l u) (s : State) : (s.setLink l u).cache = s.cache := rfl
@[simp] theorem engine_setLink (l u) (s : State) : (s.setLink l u).engine = s.engine := rfl
@[simp] theorem auth_setLink (l u) (s : State) : (s.setLink l u).auth = s.auth := rfl
@[simp] theorem events_setLink (l u) (s : State) : (s.setLink l u).events = s.events := rfl
@[simp] theorem now_setLink (l u) (s : State) : (s.setLink l u).now = s.now := rfl
@[simp] theorem isHeld_setLink (l u) (s : State) : (s.setLink l u).isHeld = s.isHeld := rfl
@[simp] theorem started_setLink (l u) (s : State) : (s.setLink l u).started = s.started := rfl
@[simp] theorem fitted_setLink (l u) (s : State) : (s.setLink l u).fitted = s.fitted := rfl
@[simp] theorem active_setLink (l u) (s : State) : (s.setLink l u).active = s.active := rfl

end Sys2Proof.Machine
end

