-- ==== Sys2Proof/Laws/Frames.lean ====
section
/-! SUPPORT. What each shared operation leaves as it was: one lemma for each operation, naming every block it
does not touch. -/

namespace Sys2Proof.Machine

/-! ### Time and events -/

@[simp] theorem advanceTo_frame (t : Instant) (s : State) :
    (advanceTo t s).pending = s.pending ∧
    (advanceTo t s).free = s.free ∧
    (advanceTo t s).seq = s.seq ∧
    (advanceTo t s).front = s.front ∧
    (advanceTo t s).store = s.store ∧
    (advanceTo t s).cache = s.cache ∧
    (advanceTo t s).engine = s.engine ∧
    (advanceTo t s).links = s.links ∧
    (advanceTo t s).auth = s.auth ∧
    (advanceTo t s).events = s.events := by
  unfold advanceTo
  simp

@[simp] theorem tick_frame (s : State) :
    (tick s).pending = s.pending ∧
    (tick s).free = s.free ∧
    (tick s).seq = s.seq ∧
    (tick s).front = s.front ∧
    (tick s).store = s.store ∧
    (tick s).cache = s.cache ∧
    (tick s).engine = s.engine ∧
    (tick s).links = s.links ∧
    (tick s).auth = s.auth ∧
    (tick s).events = s.events := by
  simp only [tick]
  split <;> simp

@[simp] theorem raiseOn_frame (l : Link) (e : Event) (s : State) :
    (raiseOn l e s).pending = s.pending ∧
    (raiseOn l e s).free = s.free ∧
    (raiseOn l e s).seq = s.seq ∧
    (raiseOn l e s).front = s.front ∧
    (raiseOn l e s).timing = s.timing ∧
    (raiseOn l e s).store = s.store ∧
    (raiseOn l e s).cache = s.cache ∧
    (raiseOn l e s).engine = s.engine ∧
    (raiseOn l e s).links = s.links ∧
    (raiseOn l e s).auth = s.auth := by
  simp only [raiseOn]
  split <;> simp

@[simp] theorem raise_frame (e : Event) (s : State) :
    (raise e s).pending = s.pending ∧
    (raise e s).free = s.free ∧
    (raise e s).seq = s.seq ∧
    (raise e s).front = s.front ∧
    (raise e s).timing = s.timing ∧
    (raise e s).store = s.store ∧
    (raise e s).cache = s.cache ∧
    (raise e s).engine = s.engine ∧
    (raise e s).links = s.links ∧
    (raise e s).auth = s.auth := by
  unfold raise
  simp

@[simp] theorem raiseIf_frame (b : Bool) (e : Event) (s : State) :
    (raiseIf b e s).pending = s.pending ∧
    (raiseIf b e s).free = s.free ∧
    (raiseIf b e s).seq = s.seq ∧
    (raiseIf b e s).front = s.front ∧
    (raiseIf b e s).timing = s.timing ∧
    (raiseIf b e s).store = s.store ∧
    (raiseIf b e s).cache = s.cache ∧
    (raiseIf b e s).engine = s.engine ∧
    (raiseIf b e s).links = s.links ∧
    (raiseIf b e s).auth = s.auth := by
  simp only [raiseIf]
  split <;> simp

@[simp] theorem settle_frame (s : State) :
    (settle s).pending = s.pending ∧
    (settle s).free = s.free ∧
    (settle s).seq = s.seq ∧
    (settle s).front = s.front ∧
    (settle s).timing = s.timing ∧
    (settle s).store = s.store ∧
    (settle s).cache = s.cache ∧
    (settle s).engine = s.engine ∧
    (settle s).links = s.links ∧
    (settle s).auth = s.auth := by
  simp only [settle]
  split <;> simp

@[simp] theorem changeUnit_frame (l : Link) (f : EventUnit → EventUnit) (s : State) :
    (changeUnit l f s).pending = s.pending ∧
    (changeUnit l f s).free = s.free ∧
    (changeUnit l f s).seq = s.seq ∧
    (changeUnit l f s).front = s.front ∧
    (changeUnit l f s).timing = s.timing ∧
    (changeUnit l f s).store = s.store ∧
    (changeUnit l f s).cache = s.cache ∧
    (changeUnit l f s).engine = s.engine ∧
    (changeUnit l f s).links = s.links ∧
    (changeUnit l f s).auth = s.auth := by
  unfold changeUnit
  simp

/-! ### Transmitters, frames and replies -/

@[simp] theorem startTransmit_frame (l : Link) (s : State) :
    (startTransmit l s).pending = s.pending ∧
    (startTransmit l s).free = s.free ∧
    (startTransmit l s).seq = s.seq ∧
    (startTransmit l s).front = s.front ∧
    (startTransmit l s).timing = s.timing ∧
    (startTransmit l s).store = s.store ∧
    (startTransmit l s).cache = s.cache ∧
    (startTransmit l s).engine = s.engine ∧
    (startTransmit l s).auth = s.auth ∧
    (startTransmit l s).events = s.events := by
  simp only [startTransmit]
  repeat' split
  all_goals simp

@[simp] theorem joinReply_frame (l : Link) (k : Byte) (p : List Byte) (s : State) :
    (joinReply l k p s).pending = s.pending ∧
    (joinReply l k p s).free = s.free ∧
    (joinReply l k p s).seq = s.seq ∧
    (joinReply l k p s).front = s.front ∧
    (joinReply l k p s).timing = s.timing ∧
    (joinReply l k p s).store = s.store ∧
    (joinReply l k p s).cache = s.cache ∧
    (joinReply l k p s).engine = s.engine ∧
    (joinReply l k p s).auth = s.auth ∧
    (joinReply l k p s).events = s.events := by
  unfold joinReply
  simp

@[simp] theorem handRecord_frame (l : Link) (f : TxFrame) (s : State) :
    (handRecord l f s).pending = s.pending ∧
    (handRecord l f s).free = s.free ∧
    (handRecord l f s).seq = s.seq ∧
    (handRecord l f s).front = s.front ∧
    (handRecord l f s).timing = s.timing ∧
    (handRecord l f s).store = s.store ∧
    (handRecord l f s).cache = s.cache ∧
    (handRecord l f s).engine = s.engine ∧
    (handRecord l f s).auth = s.auth ∧
    (handRecord l f s).events = s.events := by
  unfold handRecord
  simp

@[simp] theorem abilitySend_frame (l : Link) (t : Instant) (s : State) :
    (abilitySend l t s).pending = s.pending ∧
    (abilitySend l t s).free = s.free ∧
    (abilitySend l t s).seq = s.seq ∧
    (abilitySend l t s).front = s.front ∧
    (abilitySend l t s).timing = s.timing ∧
    (abilitySend l t s).store = s.store ∧
    (abilitySend l t s).cache = s.cache ∧
    (abilitySend l t s).engine = s.engine ∧
    (abilitySend l t s).auth = s.auth ∧
    (abilitySend l t s).events = s.events := by
  unfold abilitySend
  simp

@[simp] theorem answerReadStore_frame (p : List Byte) (s : State) :
    (answerReadStore p s).pending = s.pending ∧
    (answerReadStore p s).free = s.free ∧
    (answerReadStore p s).seq = s.seq ∧
    (answerReadStore p s).front = s.front ∧
    (answerReadStore p s).timing = s.timing ∧
    (answerReadStore p s).store = s.store ∧
    (answerReadStore p s).cache = s.cache ∧
    (answerReadStore p s).engine = s.engine ∧
    (answerReadStore p s).auth = s.auth ∧
    (answerReadStore p s).events = s.events := by
  unfold answerReadStore
  simp

@[simp] theorem refuse_frame (l : Link) (k : Byte) (c : Code) (s : State) :
    (refuse l k c s).pending = s.pending ∧
    (refuse l k c s).free = s.free ∧
    (refuse l k c s).seq = s.seq ∧
    (refuse l k c s).front = s.front ∧
    (refuse l k c s).timing = s.timing ∧
    (refuse l k c s).store = s.store ∧
    (refuse l k c s).cache = s.cache ∧
    (refuse l k c s).engine = s.engine ∧
    (refuse l k c s).auth = s.auth ∧
    (refuse l k c s).events = s.events := by
  simp only [refuse]
  split <;> simp

@[simp] theorem replyOk_frame (l : Link) (k : Byte) (p : List Byte) (s : State) :
    (replyOk l k p s).pending = s.pending ∧
    (replyOk l k p s).free = s.free ∧
    (replyOk l k p s).seq = s.seq ∧
    (replyOk l k p s).front = s.front ∧
    (replyOk l k p s).timing = s.timing ∧
    (replyOk l k p s).store = s.store ∧
    (replyOk l k p s).cache = s.cache ∧
    (replyOk l k p s).engine = s.engine ∧
    (replyOk l k p s).auth = s.auth ∧
    (replyOk l k p s).events = s.events := by
  unfold replyOk
  simp

@[simp] theorem frameEnds_frame (l : Link) (t : Instant) (s : State) :
    (frameEnds l t s).pending = s.pending ∧
    (frameEnds l t s).free = s.free ∧
    (frameEnds l t s).seq = s.seq ∧
    (frameEnds l t s).front = s.front ∧
    (frameEnds l t s).store = s.store ∧
    (frameEnds l t s).cache = s.cache ∧
    (frameEnds l t s).engine = s.engine ∧
    (frameEnds l t s).auth = s.auth ∧
    (frameEnds l t s).events = s.events := by
  unfold frameEnds
  simp

@[simp] theorem rearmUp_frame (l : Link) (s : State) :
    (rearmUp l s).pending = s.pending ∧
    (rearmUp l s).free = s.free ∧
    (rearmUp l s).seq = s.seq ∧
    (rearmUp l s).front = s.front ∧
    (rearmUp l s).timing = s.timing ∧
    (rearmUp l s).store = s.store ∧
    (rearmUp l s).cache = s.cache ∧
    (rearmUp l s).engine = s.engine ∧
    (rearmUp l s).auth = s.auth ∧
    (rearmUp l s).events = s.events := by
  unfold rearmUp
  simp

@[simp] theorem rejectWord_frame (l : Link) (s : State) :
    (rejectWord l s).pending = s.pending ∧
    (rejectWord l s).free = s.free ∧
    (rejectWord l s).seq = s.seq ∧
    (rejectWord l s).front = s.front ∧
    (rejectWord l s).timing = s.timing ∧
    (rejectWord l s).store = s.store ∧
    (rejectWord l s).cache = s.cache ∧
    (rejectWord l s).engine = s.engine ∧
    (rejectWord l s).auth = s.auth := by
  simp only [rejectWord]
  split <;> simp

@[simp] theorem continueFrame_frame (l : Link) (t : Instant) (b : List Byte) (s : State) :
    (continueFrame l t b s).pending = s.pending ∧
    (continueFrame l t b s).free = s.free ∧
    (continueFrame l t b s).seq = s.seq ∧
    (continueFrame l t b s).front = s.front ∧
    (continueFrame l t b s).store = s.store ∧
    (continueFrame l t b s).cache = s.cache ∧
    (continueFrame l t b s).engine = s.engine ∧
    (continueFrame l t b s).auth = s.auth ∧
    (continueFrame l t b s).events = s.events := by
  unfold continueFrame
  simp

@[simp] theorem abandonFrame_frame (l : Link) (t : Instant) (s : State) :
    (abandonFrame l t s).pending = s.pending ∧
    (abandonFrame l t s).free = s.free ∧
    (abandonFrame l t s).seq = s.seq ∧
    (abandonFrame l t s).front = s.front ∧
    (abandonFrame l t s).store = s.store ∧
    (abandonFrame l t s).cache = s.cache ∧
    (abandonFrame l t s).engine = s.engine ∧
    (abandonFrame l t s).auth = s.auth := by
  unfold abandonFrame
  simp

/-! ### Engine -/

@[simp] theorem leaveRunning_frame (s : State) :
    (leaveRunning s).pending = s.pending ∧
    (leaveRunning s).free = s.free ∧
    (leaveRunning s).seq = s.seq ∧
    (leaveRunning s).front = s.front ∧
    (leaveRunning s).store = s.store ∧
    (leaveRunning s).cache = s.cache ∧
    (leaveRunning s).links = s.links ∧
    (leaveRunning s).auth = s.auth := by
  unfold leaveRunning
  simp

@[simp] theorem enterRunning_frame (s : State) :
    (enterRunning s).pending = s.pending ∧
    (enterRunning s).free = s.free ∧
    (enterRunning s).seq = s.seq ∧
    (enterRunning s).front = s.front ∧
    (enterRunning s).timing = s.timing ∧
    (enterRunning s).store = s.store ∧
    (enterRunning s).cache = s.cache ∧
    (enterRunning s).links = s.links ∧
    (enterRunning s).auth = s.auth ∧
    (enterRunning s).events = s.events := by
  unfold enterRunning
  simp

@[simp] theorem enterPattern_frame (s : State) :
    (enterPattern s).pending = s.pending ∧
    (enterPattern s).free = s.free ∧
    (enterPattern s).seq = s.seq ∧
    (enterPattern s).front = s.front ∧
    (enterPattern s).store = s.store ∧
    (enterPattern s).cache = s.cache ∧
    (enterPattern s).links = s.links ∧
    (enterPattern s).auth = s.auth ∧
    (enterPattern s).events = s.events := by
  unfold enterPattern
  simp

@[simp] theorem enterSelected_frame (s : State) :
    (enterSelected s).pending = s.pending ∧
    (enterSelected s).free = s.free ∧
    (enterSelected s).seq = s.seq ∧
    (enterSelected s).front = s.front ∧
    (enterSelected s).store = s.store ∧
    (enterSelected s).cache = s.cache ∧
    (enterSelected s).links = s.links ∧
    (enterSelected s).auth = s.auth ∧
    (enterSelected s).events = s.events := by
  simp only [enterSelected]
  split <;> simp

@[simp] theorem stopIfNeeded_frame (s : State) :
    (stopIfNeeded s).pending = s.pending ∧
    (stopIfNeeded s).free = s.free ∧
    (stopIfNeeded s).seq = s.seq ∧
    (stopIfNeeded s).front = s.front ∧
    (stopIfNeeded s).store = s.store ∧
    (stopIfNeeded s).cache = s.cache ∧
    (stopIfNeeded s).links = s.links ∧
    (stopIfNeeded s).auth = s.auth := by
  simp only [stopIfNeeded]
  split <;> simp

@[simp] theorem followConfiguration_frame (s : State) :
    (followConfiguration s).pending = s.pending ∧
    (followConfiguration s).free = s.free ∧
    (followConfiguration s).seq = s.seq ∧
    (followConfiguration s).front = s.front ∧
    (followConfiguration s).timing = s.timing ∧
    (followConfiguration s).store = s.store ∧
    (followConfiguration s).cache = s.cache ∧
    (followConfiguration s).links = s.links ∧
    (followConfiguration s).auth = s.auth ∧
    (followConfiguration s).events = s.events := by
  simp only [followConfiguration]
  repeat' split
  all_goals simp

@[simp] theorem startIfReady_frame (s : State) :
    (startIfReady s).pending = s.pending ∧
    (startIfReady s).free = s.free ∧
    (startIfReady s).seq = s.seq ∧
    (startIfReady s).front = s.front ∧
    (startIfReady s).store = s.store ∧
    (startIfReady s).cache = s.cache ∧
    (startIfReady s).links = s.links ∧
    (startIfReady s).auth = s.auth ∧
    (startIfReady s).events = s.events := by
  simp only [startIfReady]
  split <;> simp

@[simp] theorem reevaluate_frame (s : State) :
    (reevaluate s).pending = s.pending ∧
    (reevaluate s).free = s.free ∧
    (reevaluate s).seq = s.seq ∧
    (reevaluate s).front = s.front ∧
    (reevaluate s).store = s.store ∧
    (reevaluate s).cache = s.cache ∧
    (reevaluate s).links = s.links ∧
    (reevaluate s).auth = s.auth := by
  unfold reevaluate
  simp

@[simp] theorem followSelection_frame (s : State) :
    (followSelection s).pending = s.pending ∧
    (followSelection s).free = s.free ∧
    (followSelection s).seq = s.seq ∧
    (followSelection s).front = s.front ∧
    (followSelection s).store = s.store ∧
    (followSelection s).cache = s.cache ∧
    (followSelection s).links = s.links ∧
    (followSelection s).auth = s.auth ∧
    (followSelection s).events = s.events := by
  simp only [followSelection]
  repeat' split
  all_goals simp

@[simp] theorem onComputing_frame (f : Entry → Computation → Engine → Entry × Engine) (s : State) :
    (onComputing f s).pending = s.pending ∧
    (onComputing f s).free = s.free ∧
    (onComputing f s).seq = s.seq ∧
    (onComputing f s).front = s.front ∧
    (onComputing f s).store = s.store ∧
    (onComputing f s).cache = s.cache ∧
    (onComputing f s).links = s.links ∧
    (onComputing f s).auth = s.auth ∧
    (onComputing f s).events = s.events := by
  unfold onComputing
  simp

@[simp] theorem handCell_frame (k : Key) (c : Cell) (s : State) :
    (handCell k c s).pending = s.pending ∧
    (handCell k c s).free = s.free ∧
    (handCell k c s).seq = s.seq ∧
    (handCell k c s).front = s.front ∧
    (handCell k c s).store = s.store ∧
    (handCell k c s).cache = s.cache ∧
    (handCell k c s).links = s.links ∧
    (handCell k c s).auth = s.auth ∧
    (handCell k c s).events = s.events := by
  unfold handCell
  simp

@[simp] theorem startReports_frame (s : State) :
    (startReports s).pending = s.pending ∧
    (startReports s).free = s.free ∧
    (startReports s).seq = s.seq ∧
    (startReports s).front = s.front ∧
    (startReports s).timing = s.timing ∧
    (startReports s).store = s.store ∧
    (startReports s).cache = s.cache ∧
    (startReports s).links = s.links ∧
    (startReports s).auth = s.auth ∧
    (startReports s).events = s.events := by
  simp only [startReports]
  split <;> simp

/-! ### Exchange and authority -/

@[simp] theorem setHolder_frame (h : Option Link) (b : Bool) (n : Nat) (s : State) :
    (setHolder h b n s).pending = s.pending ∧
    (setHolder h b n s).free = s.free ∧
    (setHolder h b n s).seq = s.seq ∧
    (setHolder h b n s).front = s.front ∧
    (setHolder h b n s).timing = s.timing ∧
    (setHolder h b n s).store = s.store ∧
    (setHolder h b n s).cache = s.cache ∧
    (setHolder h b n s).engine = s.engine ∧
    (setHolder h b n s).links = s.links := by
  unfold setHolder
  simp

@[simp] theorem enterSilent_frame (l : Link) (s : State) :
    (enterSilent l s).pending = s.pending ∧
    (enterSilent l s).free = s.free ∧
    (enterSilent l s).seq = s.seq ∧
    (enterSilent l s).front = s.front ∧
    (enterSilent l s).timing = s.timing ∧
    (enterSilent l s).store = s.store ∧
    (enterSilent l s).cache = s.cache ∧
    (enterSilent l s).engine = s.engine ∧
    (enterSilent l s).auth = s.auth ∧
    (enterSilent l s).events = s.events := by
  unfold enterSilent
  simp

@[simp] theorem enterDetect_frame (l : Link) (n : Nat) (w : Option MasterWord) (s : State) :
    (enterDetect l n w s).pending = s.pending ∧
    (enterDetect l n w s).free = s.free ∧
    (enterDetect l n w s).seq = s.seq ∧
    (enterDetect l n w s).front = s.front ∧
    (enterDetect l n w s).timing = s.timing ∧
    (enterDetect l n w s).store = s.store ∧
    (enterDetect l n w s).cache = s.cache ∧
    (enterDetect l n w s).engine = s.engine ∧
    (enterDetect l n w s).auth = s.auth ∧
    (enterDetect l n w s).events = s.events := by
  unfold enterDetect
  simp

@[simp] theorem enterAcknowledge_frame (l : Link) (w : MasterWord) (s : State) :
    (enterAcknowledge l w s).pending = s.pending ∧
    (enterAcknowledge l w s).free = s.free ∧
    (enterAcknowledge l w s).seq = s.seq ∧
    (enterAcknowledge l w s).front = s.front ∧
    (enterAcknowledge l w s).timing = s.timing ∧
    (enterAcknowledge l w s).store = s.store ∧
    (enterAcknowledge l w s).cache = s.cache ∧
    (enterAcknowledge l w s).engine = s.engine ∧
    (enterAcknowledge l w s).auth = s.auth ∧
    (enterAcknowledge l w s).events = s.events := by
  unfold enterAcknowledge
  simp

@[simp] theorem countWord_frame (l : Link) (w : MasterWord) (s : State) :
    (countWord l w s).pending = s.pending ∧
    (countWord l w s).free = s.free ∧
    (countWord l w s).seq = s.seq ∧
    (countWord l w s).front = s.front ∧
    (countWord l w s).timing = s.timing ∧
    (countWord l w s).store = s.store ∧
    (countWord l w s).cache = s.cache ∧
    (countWord l w s).engine = s.engine ∧
    (countWord l w s).auth = s.auth ∧
    (countWord l w s).events = s.events := by
  simp only [countWord]
  repeat' split
  all_goals simp

@[simp] theorem dropReinitReply_frame (l : Link) (s : State) :
    (dropReinitReply l s).pending = s.pending ∧
    (dropReinitReply l s).free = s.free ∧
    (dropReinitReply l s).front = s.front ∧
    (dropReinitReply l s).timing = s.timing ∧
    (dropReinitReply l s).store = s.store ∧
    (dropReinitReply l s).cache = s.cache ∧
    (dropReinitReply l s).engine = s.engine ∧
    (dropReinitReply l s).links = s.links ∧
    (dropReinitReply l s).auth = s.auth ∧
    (dropReinitReply l s).events = s.events := by
  simp only [dropReinitReply]
  split <;> simp

@[simp] theorem dropUp_frame (l : Link) (s : State) :
    (dropUp l s).pending = s.pending ∧
    (dropUp l s).free = s.free ∧
    (dropUp l s).front = s.front ∧
    (dropUp l s).timing = s.timing ∧
    (dropUp l s).cache = s.cache ∧
    (dropUp l s).auth = s.auth := by
  simp only [dropUp]
  split <;> simp

@[simp] theorem equalSeedRestart_frame (n : Nat) (s : State) :
    (equalSeedRestart n s).pending = s.pending ∧
    (equalSeedRestart n s).free = s.free ∧
    (equalSeedRestart n s).front = s.front ∧
    (equalSeedRestart n s).cache = s.cache := by
  unfold equalSeedRestart
  simp

@[simp] theorem resolveAuthority_frame (s : State) :
    (resolveAuthority s).pending = s.pending ∧
    (resolveAuthority s).free = s.free ∧
    (resolveAuthority s).front = s.front ∧
    (resolveAuthority s).cache = s.cache := by
  simp only [resolveAuthority]
  repeat' split
  all_goals simp

@[simp] theorem leaveUp_frame (l : Link) (s : State) :
    (leaveUp l s).pending = s.pending ∧
    (leaveUp l s).free = s.free ∧
    (leaveUp l s).front = s.front ∧
    (leaveUp l s).cache = s.cache := by
  unfold leaveUp
  simp

@[simp] theorem enterUp_frame (l : Link) (s : State) :
    (enterUp l s).pending = s.pending ∧
    (enterUp l s).free = s.free ∧
    (enterUp l s).front = s.front ∧
    (enterUp l s).cache = s.cache := by
  simp only [enterUp]
  split <;> simp

@[simp] theorem settleWord_frame (l : Link) (w : MasterWord) (s : State) :
    (settleWord l w s).pending = s.pending ∧
    (settleWord l w s).free = s.free ∧
    (settleWord l w s).front = s.front ∧
    (settleWord l w s).cache = s.cache := by
  simp only [settleWord]
  repeat' split
  all_goals simp

@[simp] theorem receiveWord_frame (l : Link) (w : MasterWord) (s : State) :
    (receiveWord l w s).pending = s.pending ∧
    (receiveWord l w s).free = s.free ∧
    (receiveWord l w s).front = s.front ∧
    (receiveWord l w s).cache = s.cache := by
  simp only [receiveWord]
  split <;> simp

@[simp] theorem takeAbility_frame (l : Link) (t : Instant) (p : List Byte) (s : State) :
    (takeAbility l t p s).pending = s.pending ∧
    (takeAbility l t p s).free = s.free ∧
    (takeAbility l t p s).front = s.front ∧
    (takeAbility l t p s).cache = s.cache := by
  simp only [takeAbility]
  repeat' split
  all_goals simp

/-! ### Front end -/

@[simp] theorem noteConversion_frame (a : Axis) (b : Bool) (s : State) :
    (noteConversion a b s).pending = s.pending ∧
    (noteConversion a b s).free = s.free ∧
    (noteConversion a b s).seq = s.seq ∧
    (noteConversion a b s).timing = s.timing ∧
    (noteConversion a b s).store = s.store ∧
    (noteConversion a b s).cache = s.cache ∧
    (noteConversion a b s).engine = s.engine ∧
    (noteConversion a b s).links = s.links ∧
    (noteConversion a b s).auth = s.auth := by
  unfold noteConversion
  simp

@[simp] theorem applySample_frame (a : Axis) (x : Sample) (s : State) :
    (applySample a x s).pending = s.pending ∧
    (applySample a x s).free = s.free ∧
    (applySample a x s).seq = s.seq ∧
    (applySample a x s).timing = s.timing ∧
    (applySample a x s).store = s.store ∧
    (applySample a x s).cache = s.cache ∧
    (applySample a x s).engine = s.engine ∧
    (applySample a x s).links = s.links ∧
    (applySample a x s).auth = s.auth := by
  simp only [applySample]
  repeat' split
  all_goals simp

@[simp] theorem notePrediction_frame (a : Axis) (c : MapCopy) (p : Option AxisPrediction) (s : State) :
    (notePrediction a c p s).pending = s.pending ∧
    (notePrediction a c p s).free = s.free ∧
    (notePrediction a c p s).seq = s.seq ∧
    (notePrediction a c p s).timing = s.timing ∧
    (notePrediction a c p s).store = s.store ∧
    (notePrediction a c p s).cache = s.cache ∧
    (notePrediction a c p s).links = s.links ∧
    (notePrediction a c p s).auth = s.auth := by
  simp only [notePrediction]
  split <;> simp

@[simp] theorem notePredictions_frame (m : MS0) (t : Instant) (c : MapCopy) (s : State) :
    (notePredictions m t c s).pending = s.pending ∧
    (notePredictions m t c s).free = s.free ∧
    (notePredictions m t c s).seq = s.seq ∧
    (notePredictions m t c s).timing = s.timing ∧
    (notePredictions m t c s).store = s.store ∧
    (notePredictions m t c s).cache = s.cache ∧
    (notePredictions m t c s).links = s.links ∧
    (notePredictions m t c s).auth = s.auth := by
  unfold notePredictions
  simp

/-! ### Store and cache -/

@[simp] theorem invalidateKind_frame (k : TableKind) (s : State) :
    (invalidateKind k s).pending = s.pending ∧
    (invalidateKind k s).free = s.free ∧
    (invalidateKind k s).seq = s.seq ∧
    (invalidateKind k s).front = s.front ∧
    (invalidateKind k s).timing = s.timing ∧
    (invalidateKind k s).engine = s.engine ∧
    (invalidateKind k s).links = s.links ∧
    (invalidateKind k s).auth = s.auth ∧
    (invalidateKind k s).events = s.events := by
  simp only [invalidateKind]
  split <;> simp

@[simp] theorem walkAdvance_frame (s : State) :
    (walkAdvance s).pending = s.pending ∧
    (walkAdvance s).free = s.free ∧
    (walkAdvance s).seq = s.seq ∧
    (walkAdvance s).front = s.front ∧
    (walkAdvance s).timing = s.timing ∧
    (walkAdvance s).store = s.store ∧
    (walkAdvance s).engine = s.engine ∧
    (walkAdvance s).links = s.links ∧
    (walkAdvance s).auth = s.auth := by
  simp only [walkAdvance]
  split <;> simp

@[simp] theorem withdrawKind_frame (k : TableKind) (n : BitVec 3) (s : State) :
    (withdrawKind k n s).pending = s.pending ∧
    (withdrawKind k n s).free = s.free ∧
    (withdrawKind k n s).seq = s.seq ∧
    (withdrawKind k n s).front = s.front ∧
    (withdrawKind k n s).timing = s.timing ∧
    (withdrawKind k n s).engine = s.engine ∧
    (withdrawKind k n s).links = s.links ∧
    (withdrawKind k n s).auth = s.auth ∧
    (withdrawKind k n s).events = s.events := by
  simp only [withdrawKind]
  repeat' split
  all_goals simp

@[simp] theorem withdrawSector0_frame (s : State) :
    (withdrawSector0 s).pending = s.pending ∧
    (withdrawSector0 s).free = s.free ∧
    (withdrawSector0 s).seq = s.seq ∧
    (withdrawSector0 s).cache = s.cache ∧
    (withdrawSector0 s).links = s.links ∧
    (withdrawSector0 s).auth = s.auth := by
  unfold withdrawSector0
  simp

@[simp] theorem beginOnSector_frame (n : BitVec 3) (s : State) :
    (beginOnSector n s).pending = s.pending ∧
    (beginOnSector n s).free = s.free ∧
    (beginOnSector n s).seq = s.seq ∧
    (beginOnSector n s).links = s.links ∧
    (beginOnSector n s).auth = s.auth := by
  simp only [beginOnSector]
  split <;> simp

@[simp] theorem beginWork_frame (o : StoreOp) (s : State) :
    (beginWork o s).pending = s.pending ∧
    (beginWork o s).free = s.free ∧
    (beginWork o s).seq = s.seq ∧
    (beginWork o s).links = s.links ∧
    (beginWork o s).auth = s.auth := by
  simp only [beginWork]
  split <;> simp

@[simp] theorem completeOp_frame (o : StoreOp) (r : OpResult) (s : State) :
    (completeOp o r s).pending = s.pending ∧
    (completeOp o r s).free = s.free ∧
    (completeOp o r s).seq = s.seq ∧
    (completeOp o r s).front = s.front ∧
    (completeOp o r s).cache = s.cache ∧
    (completeOp o r s).links = s.links ∧
    (completeOp o r s).auth = s.auth := by
  unfold completeOp
  simp

@[simp] theorem setFlash_frame (m : List Host.Cell) (s : State) :
    (setFlash m s).pending = s.pending ∧
    (setFlash m s).free = s.free ∧
    (setFlash m s).seq = s.seq ∧
    (setFlash m s).front = s.front ∧
    (setFlash m s).timing = s.timing ∧
    (setFlash m s).cache = s.cache ∧
    (setFlash m s).engine = s.engine ∧
    (setFlash m s).links = s.links ∧
    (setFlash m s).auth = s.auth ∧
    (setFlash m s).events = s.events := by
  unfold setFlash
  simp

@[simp] theorem scanSector0_frame (s : State) :
    (scanSector0 s).pending = s.pending ∧
    (scanSector0 s).free = s.free ∧
    (scanSector0 s).seq = s.seq ∧
    (scanSector0 s).timing = s.timing ∧
    (scanSector0 s).cache = s.cache ∧
    (scanSector0 s).engine = s.engine ∧
    (scanSector0 s).links = s.links ∧
    (scanSector0 s).auth = s.auth ∧
    (scanSector0 s).events = s.events := by
  simp only [scanSector0]
  split <;> simp

@[simp] theorem scanKind_frame (k : TableKind) (s : State) :
    (scanKind k s).pending = s.pending ∧
    (scanKind k s).free = s.free ∧
    (scanKind k s).seq = s.seq ∧
    (scanKind k s).front = s.front ∧
    (scanKind k s).timing = s.timing ∧
    (scanKind k s).engine = s.engine ∧
    (scanKind k s).links = s.links ∧
    (scanKind k s).auth = s.auth ∧
    (scanKind k s).events = s.events := by
  simp only [scanKind]
  split <;> simp

@[simp] theorem scanResults_frame (s : State) :
    (scanResults s).pending = s.pending ∧
    (scanResults s).free = s.free ∧
    (scanResults s).seq = s.seq ∧
    (scanResults s).timing = s.timing ∧
    (scanResults s).engine = s.engine ∧
    (scanResults s).links = s.links ∧
    (scanResults s).auth = s.auth ∧
    (scanResults s).events = s.events := by
  simp only [scanResults]
  simp

@[simp] theorem setPort_frame (j : PortJob) (s : State) :
    (setPort j s).pending = s.pending ∧
    (setPort j s).free = s.free ∧
    (setPort j s).seq = s.seq ∧
    (setPort j s).front = s.front ∧
    (setPort j s).timing = s.timing ∧
    (setPort j s).cache = s.cache ∧
    (setPort j s).engine = s.engine ∧
    (setPort j s).links = s.links ∧
    (setPort j s).auth = s.auth ∧
    (setPort j s).events = s.events := by
  unfold setPort
  simp

@[simp] theorem startSource_frame (x : PortSource) (s : State) :
    (startSource x s).pending = s.pending ∧
    (startSource x s).free = s.free ∧
    (startSource x s).seq = s.seq ∧
    (startSource x s).front = s.front ∧
    (startSource x s).timing = s.timing ∧
    (startSource x s).engine = s.engine ∧
    (startSource x s).links = s.links ∧
    (startSource x s).auth = s.auth ∧
    (startSource x s).events = s.events := by
  simp only [startSource]
  repeat' split
  all_goals simp

@[simp] theorem endRead_frame (t : Instant) (n : Nat) (s : State) :
    (endRead t n s).pending = s.pending ∧
    (endRead t n s).free = s.free ∧
    (endRead t n s).seq = s.seq ∧
    (endRead t n s).front = s.front ∧
    (endRead t n s).cache = s.cache ∧
    (endRead t n s).engine = s.engine ∧
    (endRead t n s).links = s.links ∧
    (endRead t n s).auth = s.auth ∧
    (endRead t n s).events = s.events := by
  unfold endRead
  simp

@[simp] theorem finishFill_frame (k : Key) (c : Cell) (s : State) :
    (finishFill k c s).pending = s.pending ∧
    (finishFill k c s).free = s.free ∧
    (finishFill k c s).seq = s.seq ∧
    (finishFill k c s).front = s.front ∧
    (finishFill k c s).store = s.store ∧
    (finishFill k c s).links = s.links ∧
    (finishFill k c s).auth = s.auth ∧
    (finishFill k c s).events = s.events := by
  simp only [finishFill]
  split <;> simp

@[simp] theorem finishWalkRead_frame (k : Key) (c : Cell) (g : Nat) (b : Bool) (s : State) :
    (finishWalkRead k c g b s).pending = s.pending ∧
    (finishWalkRead k c g b s).free = s.free ∧
    (finishWalkRead k c g b s).seq = s.seq ∧
    (finishWalkRead k c g b s).front = s.front ∧
    (finishWalkRead k c g b s).timing = s.timing ∧
    (finishWalkRead k c g b s).store = s.store ∧
    (finishWalkRead k c g b s).engine = s.engine ∧
    (finishWalkRead k c g b s).links = s.links ∧
    (finishWalkRead k c g b s).auth = s.auth := by
  simp only [finishWalkRead]
  split <;> simp

/-! ### Stream and frames -/

@[simp] theorem beginAcquisition_frame (s : State) :
    (beginAcquisition s).pending = s.pending ∧
    (beginAcquisition s).free = s.free ∧
    (beginAcquisition s).seq = s.seq ∧
    (beginAcquisition s).front = s.front ∧
    (beginAcquisition s).store = s.store ∧
    (beginAcquisition s).cache = s.cache ∧
    (beginAcquisition s).links = s.links ∧
    (beginAcquisition s).auth = s.auth := by
  unfold beginAcquisition
  simp

@[simp] theorem lockStream_frame (n : Nat) (s : State) :
    (lockStream n s).pending = s.pending ∧
    (lockStream n s).free = s.free ∧
    (lockStream n s).seq = s.seq ∧
    (lockStream n s).front = s.front ∧
    (lockStream n s).store = s.store ∧
    (lockStream n s).cache = s.cache ∧
    (lockStream n s).engine = s.engine ∧
    (lockStream n s).links = s.links ∧
    (lockStream n s).auth = s.auth ∧
    (lockStream n s).events = s.events := by
  unfold lockStream
  simp

@[simp] theorem countStaged_frame (s : State) :
    (countStaged s).pending = s.pending ∧
    (countStaged s).free = s.free ∧
    (countStaged s).seq = s.seq ∧
    (countStaged s).front = s.front ∧
    (countStaged s).store = s.store ∧
    (countStaged s).cache = s.cache ∧
    (countStaged s).links = s.links ∧
    (countStaged s).auth = s.auth := by
  simp only [countStaged]
  split <;> simp

@[simp] theorem skipSync_frame (s : State) :
    (skipSync s).pending = s.pending ∧
    (skipSync s).free = s.free ∧
    (skipSync s).seq = s.seq ∧
    (skipSync s).front = s.front ∧
    (skipSync s).store = s.store ∧
    (skipSync s).cache = s.cache ∧
    (skipSync s).engine = s.engine ∧
    (skipSync s).links = s.links ∧
    (skipSync s).auth = s.auth ∧
    (skipSync s).events = s.events := by
  unfold skipSync
  simp

@[simp] theorem decideSync_frame (s : State) :
    (decideSync s).pending = s.pending ∧
    (decideSync s).free = s.free ∧
    (decideSync s).seq = s.seq ∧
    (decideSync s).front = s.front ∧
    (decideSync s).store = s.store ∧
    (decideSync s).cache = s.cache ∧
    (decideSync s).engine = s.engine ∧
    (decideSync s).links = s.links ∧
    (decideSync s).auth = s.auth ∧
    (decideSync s).events = s.events := by
  simp only [decideSync]
  repeat' split
  all_goals simp

@[simp] theorem afterSync_frame (s : State) :
    (afterSync s).pending = s.pending ∧
    (afterSync s).free = s.free ∧
    (afterSync s).seq = s.seq ∧
    (afterSync s).front = s.front ∧
    (afterSync s).store = s.store ∧
    (afterSync s).cache = s.cache ∧
    (afterSync s).links = s.links ∧
    (afterSync s).auth = s.auth := by
  unfold afterSync
  simp

@[simp] theorem applyEdge_frame (s : State) :
    (applyEdge s).pending = s.pending ∧
    (applyEdge s).free = s.free ∧
    (applyEdge s).seq = s.seq ∧
    (applyEdge s).front = s.front ∧
    (applyEdge s).store = s.store ∧
    (applyEdge s).cache = s.cache ∧
    (applyEdge s).links = s.links ∧
    (applyEdge s).auth = s.auth := by
  simp only [applyEdge]
  split <;> simp

@[simp] theorem loseStream_frame (s : State) :
    (loseStream s).pending = s.pending ∧
    (loseStream s).free = s.free ∧
    (loseStream s).seq = s.seq ∧
    (loseStream s).front = s.front ∧
    (loseStream s).store = s.store ∧
    (loseStream s).cache = s.cache ∧
    (loseStream s).links = s.links ∧
    (loseStream s).auth = s.auth := by
  unfold loseStream
  simp

@[simp] theorem setProgress_frame (p : Progress) (s : State) :
    (setProgress p s).pending = s.pending ∧
    (setProgress p s).free = s.free ∧
    (setProgress p s).seq = s.seq ∧
    (setProgress p s).front = s.front ∧
    (setProgress p s).store = s.store ∧
    (setProgress p s).cache = s.cache ∧
    (setProgress p s).engine = s.engine ∧
    (setProgress p s).links = s.links ∧
    (setProgress p s).auth = s.auth ∧
    (setProgress p s).events = s.events := by
  unfold setProgress
  simp

@[simp] theorem computePattern_frame (e : Entry) (x : Inputs) (s : State) :
    (computePattern e x s).pending = s.pending ∧
    (computePattern e x s).free = s.free ∧
    (computePattern e x s).seq = s.seq ∧
    (computePattern e x s).store = s.store ∧
    (computePattern e x s).cache = s.cache ∧
    (computePattern e x s).links = s.links ∧
    (computePattern e x s).auth = s.auth := by
  unfold computePattern
  simp

@[simp] theorem computeFrame_frame (e : Entry) (x : Inputs) (s : State) :
    (computeFrame e x s).pending = s.pending ∧
    (computeFrame e x s).free = s.free ∧
    (computeFrame e x s).seq = s.seq ∧
    (computeFrame e x s).store = s.store ∧
    (computeFrame e x s).links = s.links ∧
    (computeFrame e x s).auth = s.auth := by
  simp only [computeFrame]
  split <;> simp

@[simp] theorem raiseRecordEvents_frame (f : RecordFlags) (s : State) :
    (raiseRecordEvents f s).pending = s.pending ∧
    (raiseRecordEvents f s).free = s.free ∧
    (raiseRecordEvents f s).seq = s.seq ∧
    (raiseRecordEvents f s).front = s.front ∧
    (raiseRecordEvents f s).timing = s.timing ∧
    (raiseRecordEvents f s).store = s.store ∧
    (raiseRecordEvents f s).cache = s.cache ∧
    (raiseRecordEvents f s).engine = s.engine ∧
    (raiseRecordEvents f s).links = s.links ∧
    (raiseRecordEvents f s).auth = s.auth := by
  unfold raiseRecordEvents
  simp

@[simp] theorem sendFrameReport_frame (e : Entry) (d : Delivered) (s : State) :
    (sendFrameReport e d s).pending = s.pending ∧
    (sendFrameReport e d s).free = s.free ∧
    (sendFrameReport e d s).seq = s.seq ∧
    (sendFrameReport e d s).front = s.front ∧
    (sendFrameReport e d s).timing = s.timing ∧
    (sendFrameReport e d s).store = s.store ∧
    (sendFrameReport e d s).cache = s.cache ∧
    (sendFrameReport e d s).engine = s.engine ∧
    (sendFrameReport e d s).auth = s.auth ∧
    (sendFrameReport e d s).events = s.events := by
  simp only [sendFrameReport]
  split <;> simp

@[simp] theorem handOver_frame (e : Entry) (d : Delivered) (r : List Entry) (s : State) :
    (handOver e d r s).pending = s.pending ∧
    (handOver e d r s).free = s.free ∧
    (handOver e d r s).seq = s.seq ∧
    (handOver e d r s).front = s.front ∧
    (handOver e d r s).store = s.store ∧
    (handOver e d r s).cache = s.cache ∧
    (handOver e d r s).engine = s.engine ∧
    (handOver e d r s).auth = s.auth := by
  unfold handOver
  simp

/-! ### Start-up -/

@[simp] theorem failBits_frame (n : Nat) (s : State) :
    (failBits n s).pending = s.pending ∧
    (failBits n s).free = s.free ∧
    (failBits n s).front = s.front ∧
    (failBits n s).timing = s.timing ∧
    (failBits n s).store = s.store ∧
    (failBits n s).cache = s.cache ∧
    (failBits n s).engine = s.engine ∧
    (failBits n s).links = s.links ∧
    (failBits n s).auth = s.auth ∧
    (failBits n s).events = s.events := by
  unfold failBits
  simp

@[simp] theorem setPhase_frame (x : Phase) (s : State) :
    (setPhase x s).pending = s.pending ∧
    (setPhase x s).free = s.free ∧
    (setPhase x s).front = s.front ∧
    (setPhase x s).timing = s.timing ∧
    (setPhase x s).store = s.store ∧
    (setPhase x s).cache = s.cache ∧
    (setPhase x s).engine = s.engine ∧
    (setPhase x s).links = s.links ∧
    (setPhase x s).auth = s.auth ∧
    (setPhase x s).events = s.events := by
  unfold setPhase
  simp

@[simp] theorem afterEncoderRead_frame (t : Instant) (x : PerAxis EncoderTest) (s : State) :
    (afterEncoderRead t x s).pending = s.pending ∧
    (afterEncoderRead t x s).free = s.free ∧
    (afterEncoderRead t x s).front = s.front ∧
    (afterEncoderRead t x s).timing = s.timing ∧
    (afterEncoderRead t x s).store = s.store ∧
    (afterEncoderRead t x s).cache = s.cache ∧
    (afterEncoderRead t x s).engine = s.engine ∧
    (afterEncoderRead t x s).links = s.links ∧
    (afterEncoderRead t x s).auth = s.auth ∧
    (afterEncoderRead t x s).events = s.events := by
  simp only [afterEncoderRead]
  split <;> simp

@[simp] theorem endStartup_frame (s : State) :
    (endStartup s).pending = s.pending ∧
    (endStartup s).free = s.free ∧
    (endStartup s).store = s.store ∧
    (endStartup s).cache = s.cache := by
  unfold endStartup
  simp

end Sys2Proof.Machine
end

