-- ==== Sys2Proof/Laws/Events.lean ====
section
/-! SUPPORT. What raising, settling and answering do to the event unit, said once. -/

namespace Sys2Proof.Machine

/-- Settling changes no condition of a level bit. -/
@[simp] theorem levelWord_settle (s : State) : levelWord (settle s) = levelWord s := by
  simp [levelWord, State.axisLost, State.tableMissing, State.selfTestFailed, State.fitted]

/-- Raising changes no condition of a level bit. -/
@[simp] theorem levelWord_raiseOn (l : Link) (e : Event) (s : State) : levelWord (raiseOn l e s) = levelWord s := by
  simp [levelWord, State.axisLost, State.tableMissing, State.selfTestFailed, State.fitted]

@[simp] theorem levelWord_raise (e : Event) (s : State) : levelWord (raise e s) = levelWord s := by
  simp [raise]

@[simp] theorem levelWord_raiseIf (b : Bool) (e : Event) (s : State) : levelWord (raiseIf b e s) = levelWord s := by
  cases b <;> simp [raiseIf]

/-- Everything settling does to the event unit. -/
theorem events_settle (s : State) : (settle s).events =
    s.events.map fun w => ⟨w.body.settle (levelWord s), w.accessory.settle (levelWord s)⟩ := by
  cases h : s.events <;> simp [settle, h]

/-- Everything raising on one link does to the event unit. -/
theorem events_raiseOn (l : Link) (e : Event) (s : State) : (raiseOn l e s).events =
    s.events.map fun w => w.set l ((w.get l).latch e) := by
  cases h : s.events <;> simp [raiseOn, h]

/-- Everything raising does to the event unit. -/
theorem events_raise (e : Event) (s : State) : (raise e s).events =
    s.events.map fun w => ⟨w.body.latch e, w.accessory.latch e⟩ := by
  cases h : s.events <;> simp [raise, events_raiseOn, h, PerLink.set, PerLink.get]

/-- Everything raising when a condition holds does to the event unit. -/
theorem events_raiseIf (b : Bool) (e : Event) (s : State) : (raiseIf b e s).events =
    s.events.map fun w => if b then ⟨w.body.latch e, w.accessory.latch e⟩ else w := by
  cases b <;> simp [raiseIf, events_raise]

/-- A settled unit has its level bits set and its line as R184 says. -/
theorem unitLaw_settle (levels : EventWord) (u : EventUnit) : UnitLaw levels (u.settle levels) := by
  refine ⟨?_, rfl⟩
  simp only [EventUnit.settle]
  ext i
  simp only [BitVec.getElem_and, BitVec.getElem_not, BitVec.getElem_or]
  cases levels[i] <;> cases u.pending[i] <;> simp

/-- A settled state keeps the law of events, when its unit holds words exactly outside the held phase. -/
theorem eventLaw_settle {s : State} (h : s.events.isNone = s.isHeld) : EventLaw (settle s) := by
  unfold EventLaw
  rw [events_settle, levelWord_settle]
  have hh : (settle s).isHeld = s.isHeld := by simp [State.isHeld]
  rw [hh]
  cases he : s.events with
  | none => simpa [he] using h.symm
  | some w => exact ⟨by simpa [he] using h.symm, unitLaw_settle _ _, unitLaw_settle _ _⟩

/-- A settled unit is a raised unit with nothing raised. -/
theorem settle_eq_raisedUnit (levels : EventWord) (u : EventUnit) : u.settle levels = raisedUnit 0 levels u := by
  have h : ∀ b : Bool, decide (b = true) = b := by decide
  simp only [EventUnit.settle, raisedUnit, EventUnit.mk.injEq, true_and]
  exact ⟨by simp, by simp [bne, BEq.beq]⟩

/-- Settling raises nothing of its own. -/
theorem eventsRaised_settle (s : State) : EventsRaised 0 0 s (settle s) := by
  unfold EventsRaised
  rw [events_settle, levelWord_settle]
  simp only [settle_eq_raisedUnit]

/-- Raising an event and settling raises its bit on both links. -/
theorem eventsRaised_raise (e : Event) (s : State) : EventsRaised e.mask e.mask s (settle (raise e s)) := by
  unfold EventsRaised
  rw [events_settle, levelWord_settle, levelWord_raise, events_raise]
  cases s.events with
  | none => rfl
  | some w =>
    simp only [Option.map_some, settle_eq_raisedUnit]
    simp [raisedUnit, EventUnit.latch]

end Sys2Proof.Machine
end

