-- ==== Sys2Proof/Laws/Flash.lean ====
section
/-! SUPPORT. The flash array: what a read gives after each operation, and that every operation keeps the
canonical form (R68; log 5). -/

namespace Sys2Proof.Machine

/-! ### The canonical form -/

/-- The canonical form read as a proposition. -/
theorem flashWf_iff (m : List Host.Cell) :
    flashWf m = true ↔
      m.Pairwise (fun x y => x.1 < y.1) ∧ ∀ c ∈ m, c.1 < flashSize ∧ c.2 ≠ erasedByte := by
  simp [flashWf]

@[simp] theorem flashWf_nil : flashWf [] = true := rfl

/-- An entry of a written array is an old entry or the one written. -/
theorem mem_flashWrite {c : Host.Cell} {m : List Host.Cell} {a : Nat} {b : Byte}
    (h : c ∈ flashWrite m a b) : c ∈ m ∨ (c = (a, b) ∧ b ≠ erasedByte) := by
  induction m with
  | nil => grind [flashWrite]
  | cons d rest ih => grind [flashWrite]

/-- A write inside the array keeps the canonical form. -/
theorem flashWrite_wf {m : List Host.Cell} {a : Nat} {b : Byte} (hm : flashWf m = true)
    (ha : a < flashSize) : flashWf (flashWrite m a b) = true := by
  rw [flashWf_iff] at hm ⊢
  refine ⟨?_, fun c hc => ?_⟩
  · obtain ⟨hp, -⟩ := hm
    induction m with
    | nil => simp only [flashWrite]; split <;> simp
    | cons d rest ih =>
      rw [List.pairwise_cons] at hp
      have ih := ih hp.2
      simp only [flashWrite]
      split
      · split
        · exact List.pairwise_cons.2 hp
        · refine List.pairwise_cons.2 ⟨?_, List.pairwise_cons.2 hp⟩
          grind
      · split
        · split
          · exact hp.2
          · exact List.pairwise_cons.2 ⟨by grind, hp.2⟩
        · refine List.pairwise_cons.2 ⟨fun c hc => ?_, ih⟩
          rcases mem_flashWrite hc with h | ⟨rfl, -⟩
          · exact hp.1 c h
          · show d.1 < a
            omega
  · rcases mem_flashWrite hc with h | ⟨rfl, h⟩
    · exact hm.2 c h
    · exact ⟨ha, h⟩

theorem flashFill_wf {m : List Host.Cell} {a n : Nat} {f : Nat → Byte} (hm : flashWf m = true)
    (ha : a + n ≤ flashSize) : flashWf (flashFill m a f n) = true := by
  induction n with
  | zero => exact hm
  | succ n ih => exact flashWrite_wf (ih (by omega)) (by omega)

theorem flashErase_wf {m : List Host.Cell} (a n : Nat) (hm : flashWf m = true) :
    flashWf (flashErase m a n) = true := by
  rw [flashWf_iff] at hm ⊢
  exact ⟨hm.1.filter _, fun c hc => hm.2 c (List.mem_of_mem_filter hc)⟩

theorem flashProgram_wf {m : List Host.Cell} {a : Nat} {bs : List Byte} (hm : flashWf m = true)
    (ha : a + bs.length ≤ flashSize) : flashWf (flashProgram m a bs) = true := by
  induction bs generalizing m a with
  | nil => exact hm
  | cons b bs ih =>
    simp only [List.length_cons] at ha
    exact ih (flashWrite_wf hm (by omega)) (by omega)

/-! ### Reads -/

/-- An address below every entry reads as erased. -/
theorem flashRead_of_lt {m : List Host.Cell} {a : Nat} (h : ∀ c ∈ m, a < c.1) :
    flashRead m a = erasedByte := by
  induction m with
  | nil => rfl
  | cons d rest ih => grind [flashRead]

/-- A read after a write: the byte written at its address, the old byte elsewhere. -/
theorem flashRead_flashWrite {m : List Host.Cell} (hm : flashWf m = true) (a x : Nat) (b : Byte) :
    flashRead (flashWrite m a b) x = if x = a then b else flashRead m x := by
  rw [flashWf_iff] at hm
  obtain ⟨hp, -⟩ := hm
  induction m with
  | nil => grind [flashWrite, flashRead]
  | cons d rest ih =>
    rw [List.pairwise_cons] at hp
    have ih := ih hp.2
    have hlow : x ≤ d.1 → flashRead rest x = erasedByte := fun h =>
      flashRead_of_lt fun c hc => Nat.lt_of_le_of_lt h (hp.1 c hc)
    grind [flashWrite, flashRead]

theorem flashRead_flashFill {m : List Host.Cell} {a n : Nat} {f : Nat → Byte} (hm : flashWf m = true)
    (ha : a + n ≤ flashSize) (x : Nat) :
    flashRead (flashFill m a f n) x = if a ≤ x ∧ x < a + n then f x else flashRead m x := by
  induction n with
  | zero => simp only [flashFill]; grind
  | succ n ih =>
    simp only [flashFill]
    rw [flashRead_flashWrite (flashFill_wf hm (by omega)), ih (by omega)]
    grind

theorem flashRead_flashErase (m : List Host.Cell) (a n x : Nat) :
    flashRead (flashErase m a n) x = if a ≤ x ∧ x < a + n then erasedByte else flashRead m x := by
  induction m with
  | nil => simp [flashErase, flashRead]
  | cons d rest ih =>
    simp only [flashErase, List.filter_cons] at ih ⊢
    grind [flashRead]

theorem flashRead_flashProgram {m : List Host.Cell} {a : Nat} {bs : List Byte} (hm : flashWf m = true)
    (ha : a + bs.length ≤ flashSize) (x : Nat) :
    flashRead (flashProgram m a bs) x =
      if a ≤ x ∧ x < a + bs.length then flashRead m x &&& bs.getD (x - a) 0 else flashRead m x := by
  induction bs generalizing m a with
  | nil => simp [flashProgram]
  | cons b bs ih =>
    simp only [List.length_cons] at ha
    simp only [flashProgram]
    rw [ih (flashWrite_wf hm (by omega)) (by omega), flashRead_flashWrite hm]
    by_cases hx : x = a
    · subst hx; simp
    · rcases Nat.lt_or_ge x a with h | h
      · grind
      · obtain ⟨k, rfl⟩ : ∃ k, x = a + 1 + k := ⟨x - (a + 1), by omega⟩
        have e : a + 1 + k - a = (a + 1 + k - (a + 1)) + 1 := by omega
        rw [e, List.getD_cons_succ]
        grind

/-! ### Addresses -/

/-- A sector lies inside the array. -/
theorem sectorBase_le (n : BitVec 3) : sectorBase n + sectorSize ≤ flashSize := by
  have := n.isLt
  simp only [sectorBase, sectorSize, flashSize]; omega

/-- A page lies inside its sector. -/
theorem pageBase_le (n : BitVec 3) (p : BitVec 8) :
    sectorBase n ≤ pageBase n p ∧ pageBase n p + 256 ≤ sectorBase n + sectorSize := by
  have := p.isLt
  simp only [pageBase, sectorSize]; omega

/-! ### The part's flash -/

theorem flashWf_reset : flashWf State.reset.store.flash = true := rfl

/-- The range a reset cuts off lies inside the array. -/
theorem cutOffRange_le {o : StoreOp} {a n : Nat} (h : cutOffRange o = some (a, n)) : a + n ≤ flashSize := by
  unfold cutOffRange at h
  split at h
  · obtain ⟨rfl, rfl⟩ := by simpa using h
    exact sectorBase_le _
  · obtain ⟨rfl, rfl⟩ := by simpa using h
    exact sectorBase_le _
  · rename_i n p _ _ _ _
    obtain ⟨rfl, rfl⟩ := by simpa using h
    have := pageBase_le n p
    have := sectorBase_le n
    omega
  · obtain ⟨rfl, rfl⟩ := by simpa using h
    decide
  · cases h

theorem cutOffFlash_wf {s : State} (hm : flashWf s.store.flash = true) : flashWf (cutOffFlash s) = true := by
  unfold cutOffFlash
  split
  · rename_i a n h
    obtain ⟨o, -, ho⟩ := Option.bind_eq_some_iff.1 h
    exact flashFill_wf hm (cutOffRange_le ho)
  · exact hm

end Sys2Proof.Machine
end

