-- ==== Sys2Proof/Laws/Requests.lean ====
section
/-! SUPPORT. What a request frame can do: it is not received, it is discarded, it is not taken, it is refused,
or it is carried out. -/

namespace Sys2Proof.Machine

/-! ### The received state -/

/-- Good reception in UP leaves the state `received` names. -/
theorem rearmUp_frameEnds (l : Link) (t : Instant) (s : State) :
    rearmUp l (frameEnds l t s) = received l t s := by
  cases l <;> rfl

theorem frameEnds_eq (l : Link) (t : Instant) (s : State) :
    frameEnds l t s = { s with
      timing := { s.timing with timebase := laterOf t s.now },
      links := s.links.set l { s.link l with parser := .hunting } } := rfl

@[simp] theorem pending_received (l t) (s : State) : (received l t s).pending = s.pending := rfl
@[simp] theorem free_received (l t) (s : State) : (received l t s).free = s.free := rfl
@[simp] theorem seq_received (l t) (s : State) : (received l t s).seq = s.seq := rfl
@[simp] theorem front_received (l t) (s : State) : (received l t s).front = s.front := rfl
@[simp] theorem store_received (l t) (s : State) : (received l t s).store = s.store := rfl
@[simp] theorem cache_received (l t) (s : State) : (received l t s).cache = s.cache := rfl
@[simp] theorem engine_received (l t) (s : State) : (received l t s).engine = s.engine := rfl
@[simp] theorem auth_received (l t) (s : State) : (received l t s).auth = s.auth := rfl
@[simp] theorem events_received (l t) (s : State) : (received l t s).events = s.events := rfl
@[simp] theorem now_received (l t) (s : State) : (received l t s).now = laterOf t s.now := rfl

theorem timing_received (l t) (s : State) :
    (received l t s).timing = { s.timing with timebase := laterOf t s.now } := rfl

theorem link_received (l t) (s : State) :
    (received l t s).link l =
      { s.link l with parser := .hunting, timeout := some (addInterval (laterOf t s.now) 250000) } := by
  cases l <;> rfl

theorem link_received_other (l t) (s : State) :
    (received l t s).link (otherLink l) = s.link (otherLink l) := by
  cases l <;> rfl

theorem replyListFull_received (l t) (s : State) : replyListFull l (received l t s) = replyListFull l s := by
  cases l <;> rfl

theorem state_received (l k t) (s : State) : ((received l t s).link k).state = (s.link k).state := by
  cases l <;> cases k <;> rfl

/-! ### Refusals -/

/-- A refusal joins the reply list at once, unless a READ STORE before it is unanswered. -/
theorem refuse_eq_joinReply {l : Link} {kind : Byte} {s : State}
    (h : kind ≠ 0x44 ∨ l = .body ∨ readStoreOutstanding s = false) (c : Code) :
    refuse l kind c s = joinReply l kind [c.byte] s := by
  rw [refuse, if_neg]
  rintro ⟨hk, hl, hr⟩
  rcases h with h | h | h <;> simp_all

/-- The refusal of a READ STORE is held back while one before it is unanswered. -/
theorem refuse_eq_hold {s : State} (h : readStoreOutstanding s = true) (c : Code) :
    refuse .accessory 0x44 c s = s.setLink .accessory
      { s.link .accessory with heldBack := (s.link .accessory).heldBack ++ [⟨0x44, [c.byte]⟩] } := by
  rw [refuse, if_pos ⟨rfl, rfl, h⟩]

/-! ### The ladder -/

theorem isHeld_of_started {s : State} (h : s.started = true) : s.isHeld = false := by
  have h : s.seq.phase = .finished := by simpa [State.started] using h
  simp [State.isHeld, h]

/-- A request that is taken is refused by its first failing check or carried out, in the state `received`
names. -/
theorem takeRequest_of_serves {l : Link} {s : State} (h : Serves l s) (t : Instant) (kind : Byte)
    (checks : State → Checks) (act : State → State) :
    takeRequest l t kind checks act s =
      match refusalOf (checks (received l t s)) l (received l t s) with
      | some c => refuse l kind c (received l t s)
      | none => act (received l t s) := by
  obtain ⟨hs, hu, hr, hf⟩ := h
  have hh := isHeld_of_started hs
  have hs' : (frameEnds l t s).started = true := hs
  have hu' : ((frameEnds l t s).link l).state = .up := by cases l <;> exact hu
  simp only [takeRequest, hh, hs', hu', serveRequest, rearmUp_frameEnds, seq_received, hr,
    replyListFull_received, hf]
  rfl

/-- A request in UP that REINITIALIZE's pending restart discards. -/
theorem takeRequest_of_reinit {l : Link} {s : State} (hs : s.started = true) (hu : (s.link l).state = .up)
    (hr : s.seq.reinit ≠ .idle) (t : Instant) (kind : Byte) (checks : State → Checks) (act : State → State) :
    takeRequest l t kind checks act s = received l t s := by
  have hh := isHeld_of_started hs
  have hs' : (frameEnds l t s).started = true := hs
  have hu' : ((frameEnds l t s).link l).state = .up := by cases l <;> exact hu
  simp [takeRequest, hh, hs', hu', serveRequest, rearmUp_frameEnds, hr]

/-- A request in UP that finds the reply list full. -/
theorem takeRequest_of_full {l : Link} {s : State} (hs : s.started = true) (hu : (s.link l).state = .up)
    (hr : s.seq.reinit = .idle) (hf : replyListFull l s = true) (t : Instant) (kind : Byte)
    (checks : State → Checks) (act : State → State) :
    takeRequest l t kind checks act s = raiseOn l .frameRejected (received l t s) := by
  have hh := isHeld_of_started hs
  have hs' : (frameEnds l t s).started = true := hs
  have hu' : ((frameEnds l t s).link l).state = .up := by cases l <;> exact hu
  simp [takeRequest, hh, hs', hu', serveRequest, rearmUp_frameEnds, hr, replyListFull_received, hf]

/-- A request outside UP, or before start-up has ended. -/
theorem takeRequest_outside_up {l : Link} {s : State} (hh : s.isHeld = false)
    (h : s.started = false ∨ (s.link l).state ≠ .up) (t : Instant) (kind : Byte) (checks : State → Checks)
    (act : State → State) : takeRequest l t kind checks act s = frameEnds l t s := by
  have hs' : (frameEnds l t s).started = s.started := rfl
  have hu' : ((frameEnds l t s).link l).state = (s.link l).state := by cases l <;> rfl
  simp only [takeRequest, hh, hs', hu']
  rcases h with h | h <;> simp [h]

/-- A held part receives nothing. -/
theorem takeRequest_held {s : State} (h : s.isHeld = true) (l t kind checks act) :
    takeRequest l t kind checks act s = s := by
  simp [takeRequest, h]

/-- What a request can do at all: leave the state, end its frame, raise FRAME_REJECTED, be refused, or act. -/
theorem takeRequest_cases (l : Link) (t : Instant) (kind : Byte) (checks : State → Checks) (act : State → State)
    (s : State) :
    takeRequest l t kind checks act s = s ∨ takeRequest l t kind checks act s = frameEnds l t s ∨
    takeRequest l t kind checks act s = received l t s ∨
    takeRequest l t kind checks act s = raiseOn l .frameRejected (received l t s) ∨
    (∃ c, takeRequest l t kind checks act s = refuse l kind c (received l t s)) ∨
    takeRequest l t kind checks act s = act (received l t s) := by
  by_cases hh : s.isHeld = true
  · exact .inl (takeRequest_held hh ..)
  by_cases hu : s.started = true ∧ (s.link l).state = .up
  · by_cases hr : s.seq.reinit = .idle
    · by_cases hf : replyListFull l s = true
      · exact .inr (.inr (.inr (.inl (takeRequest_of_full hu.1 hu.2 hr hf ..))))
      · rw [takeRequest_of_serves ⟨hu.1, hu.2, hr, by simpa using hf⟩]
        split
        · exact .inr (.inr (.inr (.inr (.inl ⟨_, rfl⟩))))
        · exact .inr (.inr (.inr (.inr (.inr rfl))))
    · exact .inr (.inr (.inl (takeRequest_of_reinit hu.1 hu.2 hr ..)))
  · refine .inr (.inl (takeRequest_outside_up (by simpa using hh) ?_ ..))
    by_cases hs : s.started = true
    · exact .inr fun h => hu ⟨hs, h⟩
    · exact .inl (by simpa using hs)

/-! ### Authority -/

/-- The authority check passes a link that may command. -/
theorem authorityRefusal_of_mayCommand {l : Link} {s : State} (h : MayCommand l s) :
    authorityRefusal l s = none := by
  obtain ⟨hc, hh⟩ := h
  simp only [authorityRefusal, hc]
  cases hs : s.auth.holder with
  | none => rfl
  | some k => simp [hh k hs]

theorem authorityRefusal_received (l k t) (s : State) :
    authorityRefusal k (received l t s) = authorityRefusal k s := rfl

end Sys2Proof.Machine
end

