-- ==== Sys2Proof/Tests/Slice0.lean ====
section
/-! SUPPORT. The model's own tests: the checks on commands, the manual's worked examples, one small step of
each kind, and for each statement with hypotheses a state and operands that meet them. -/

namespace Sys2Proof.Tests

set_option Elab.async false

open Sys2Proof Sys2Proof.Machine

/-! ### Commands that no sender can send -/

def longPayload : List Byte := List.replicate 241 0#8

theorem test_smoke_long_payloads :
    [Instr.ability .body 0 longPayload, .identify .body 0 longPayload, .readStatus .body 0 longPayload,
     .readPosition .body 0 longPayload, .readEvents .body 0 longPayload, .modifyEvents .body 0 longPayload,
     .setEventEnables .body 0 longPayload, .renegotiate .body 0 longPayload, .reinitialize .body 0 longPayload,
     .frameFormat .body 0 longPayload, .frameInfo .body 0 longPayload, .writeModeSet .body 0 longPayload,
     .readModeSet .body 0 longPayload, .setAnchor .body 0 longPayload, .anchorHere .body 0 longPayload,
     .setMark .body 0 longPayload, .deleteMark .body 0 longPayload, .readMarks .body 0 longPayload,
     .lockPath .body 0 longPayload, .unlock .body 0 longPayload, .cacheStatus .body 0 longPayload,
     .dumpCache .body 0 longPayload, .loadPageBuffer .body 0 longPayload, .programPage .body 0 longPayload,
     .eraseSector .body 0 longPayload, .rescanTables .body 0 longPayload, .readStore .body 0 longPayload,
     .setReadProtection .body 0 longPayload, .clearReadProtection .body 0 longPayload,
     .unknownKindRequest .body 0 0x18 longPayload].all (fun c => !c.wellFormed) = true := by decide +kernel

theorem test_smoke_longest_payload :
    (Instr.identify .body 0 (List.replicate 240 0#8)).wellFormed = true := by decide +kernel

theorem test_smoke_known_kinds :
    [0x01#8, 0x10#8, 0x17#8, 0x3B#8, 0x46#8].all
      (fun k => !(Instr.unknownKindRequest .body 0 k []).wellFormed) = true := by decide

theorem test_smoke_unknown_kind : (Instr.unknownKindRequest .body 0 0x18 []).wellFormed = true := by decide

theorem test_no_word_spells_a_command : decodeTableWord 8 0 = none := by decide

/-! ### The manual's worked examples -/

/-- The nine bytes "123456789" give 29B1, the known value of the code of R52. -/
theorem test_crc :
    crc16 [0x31, 0x32, 0x33, 0x34, 0x35, 0x36, 0x37, 0x38, 0x39] = 0x29B1 := by decide +kernel

/-- R1's halves. -/
theorem test_rounding : roundDiv 17429 2 = 8715 ∧ roundDiv (-469) 2 = -235 ∧ roundDiv 1000000 1705 = 587 := by
  decide +kernel

/-- The focus map of 1.8. -/
def focusMap : AxisMap := ⟨⟨1200, 12000⟩, [⟨3000, 4000⟩, ⟨5000, 2000⟩, ⟨6000, 1500⟩, ⟨9000, 500⟩, ⟨14500, 0⟩]⟩

/-- 1.8: the raw count 11 063 with parity set, and its value through the reversed sense. -/
theorem test_focus_sample : answerValid 0xACDD = true ∧ convert .focus focusMap (16383 - 11063) = 1840 ∧
    focusDistance 1840 = 543 := by decide +kernel

theorem test_map_edges : convert .focus focusMap 900 = 12000 ∧ outsideOf focusMap 900 = true ∧
    convert .focus focusMap 1200 = 12000 ∧ outsideOf focusMap 1200 = false ∧
    convert .focus focusMap 5000 = 2000 ∧ outsideOf focusMap 16383 = true := by decide +kernel

/-- 3.10: the ring of the standard case. -/
def rack : List Sample := [⟨99500, 5180, true⟩, ⟨100000, 5200, true⟩, ⟨100500, 5230, true⟩, ⟨101000, 5260, true⟩,
  ⟨101500, 5290, true⟩, ⟨102000, 5320, true⟩]

def ms0 : MS0 := ⟨2000, 12000, 2, 1800, false⟩

def rackUnit : AxisUnit := ⟨.live, 0, 0, rack, some ⟨102000, 5320, some 1840⟩, false, none⟩

theorem test_extrapolation : (predictAxis ms0 106500 rackUnit none focusMap).count = 5590 ∧
    (predictAxis { ms0 with horizon := 3000 } 106500 rackUnit none focusMap).count = 5500 ∧
    (predictAxis { ms0 with horizon := 0 } 106500 rackUnit none focusMap).count = 5320 := by decide +kernel

/-- 3.10: across the wrap of the timebase. -/
theorem test_wrap : (predictAxis ms0 3500 { rackUnit with
    ring := [⟨4294964796, 3100, true⟩, ⟨4294966796, 3000, true⟩] } none focusMap).count = 2800 := by decide +kernel

/-- 3.10: inside the ring. -/
theorem test_interpolation : (predictAxis ms0 305750 { rackUnit with
    ring := [⟨305500, 7400, true⟩, ⟨306000, 7436, true⟩, ⟨306500, 7470, true⟩] } none focusMap).count = 7418 ∧
    (predictAxis ms0 305750 { rackUnit with
      ring := [⟨305500, 7400, true⟩, ⟨306000, 0, false⟩, ⟨306500, 7470, true⟩] } none focusMap).count = 7418 := by
  decide +kernel

/-- 7.9: the brackets. -/
theorem test_brackets : bracket [0, 250, 500, 1000, 1500, 2000, 3000] 1705 = ⟨4, 5, 1679, false⟩ ∧
    bracket [280, 500, 850, 1200] 700 = ⟨1, 2, 2341, false⟩ ∧
    bracket [0, 250, 500, 1000, 1500, 2000, 3000] 500 = ⟨2, 3, 0, false⟩ := by decide +kernel

def breathingNeeds : List Need := [⟨⟨.breathing, 2, 1, 0⟩, some (.breathing 1007000 20 0)⟩,
  ⟨⟨.breathing, 4, 1, 0⟩, some (.breathing 1021000 120 0)⟩, ⟨⟨.breathing, 5, 1, 0⟩, some (.breathing 1028000 160 0)⟩,
  ⟨⟨.breathing, 2, 2, 0⟩, some (.breathing 1010000 (-100) 0)⟩,
  ⟨⟨.breathing, 4, 2, 0⟩, some (.breathing 1030000 (-40) 0)⟩, ⟨⟨.breathing, 5, 2, 0⟩, some (.breathing 1040000 0 0)⟩]

/-- The table curve of 7.9 at one corner of weight 1 and the others at weight 0. -/
def shadingNeeds : List Need :=
  [⟨⟨.shading, 0, 0, 0⟩, some (.shading [4096, 4150, 4300, 4560, 4980, 5600, 6400, 7450, 8800])⟩]

def format : FrameFormat := ⟨14000, 30000, 100000, 4000, 10000, 3000⟩

/-- The computation of 7.9. -/
def worked : Computation :=
  { position := ⟨5590, 1705, 700, 20⟩, axisHeld := false, targetStale := false, anchor := 500, level := 2,
    ms1 := ⟨100, 2000, true⟩, ms2 := ⟨80, 8192⟩, policy := .hold,
    previous := ⟨some 981000, some (90, 0), none, false⟩,
    breathing := .gathering ⟨4, 5, 1679, false⟩ ⟨2, 3, 0, false⟩ ⟨1, 2, 2341, false⟩ breathingNeeds,
    shading := .gathering ⟨0, 1, 0, false⟩ ⟨0, 1, 0, false⟩ ⟨0, 1, 0, false⟩ 21600 shadingNeeds,
    outsideTable := false, sameStay := true }

theorem test_needed_keys : neededKeys (breathingCorners ⟨4, 5, 1679, false⟩ ⟨1, 2, 2341, false⟩ ++
    breathingCorners ⟨2, 3, 0, false⟩ ⟨1, 2, 2341, false⟩) = [⟨.breathing, 4, 1, 0⟩, ⟨.breathing, 4, 2, 0⟩,
    ⟨.breathing, 5, 1, 0⟩, ⟨.breathing, 5, 2, 0⟩, ⟨.breathing, 2, 1, 0⟩, ⟨.breathing, 2, 2, 0⟩] := by decide +kernel

theorem test_worked_frame : (deliver format worked).scale = 979605 ∧ (deliver format worked).shiftX = 94 ∧
    (deliver format worked).gains = [4096, 4125, 4178, 4258, 4394, 4571, 4794, 5116, 5486] ∧
    (deliver format worked).flags = .clear := by decide +kernel

/-- 7.9 and R116. For margin 0 R116 gives 1 000 000, where the row of 7.9 shows 983 000 (log 31). -/
theorem test_worked_settings :
    (deliver format { worked with ms1 := ⟨60, 2000, true⟩ }).scale = 983000 ∧
    (deliver format { worked with ms1 := ⟨60, 2000, true⟩ }).shiftX = 56 ∧
    (deliver { format with margin := 0 } worked).scale = 1000000 ∧
    (deliver { format with margin := 0 } worked).flags.scaleClamped = true ∧
    (deliver format { worked with breathing := .held, policy := .neutral }).scale = 983000 ∧
    (deliver { format with cropLimit := 10000 }
      { worked with previous := ⟨some 1050000, none, none, false⟩, breathing := .held }).scale = 1010000 := by
  decide +kernel

/-! ### States -/

def straps : Straps := ⟨true, true, true, false, false, false, true, false, false⟩

/-- Started, both links SILENT, no table, TABLE_MISSING pending. -/
def silent : State :=
  { State.reset with
    seq := ⟨.finished, straps, .power, 0, .idle⟩, front := .reset straps, timing := .reset 1000,
    events := some ⟨⟨0x0040, 0xFFFF, true⟩, ⟨0x0040, 0xFFFF, true⟩⟩ }

def bodyWord : MasterWord := ⟨2, .claim, 5, true⟩

def accessoryWord : MasterWord := ⟨0, .auto, 7, true⟩

def upUnit (w : MasterWord) (level : Option Nat) : LinkUnit :=
  { LinkUnit.reset with
    state := .up, acceptedWord := some w, timeout := some 250000, latchedLevel := some 2, recordLevel := level }

/-- Both links UP, the body link holding authority. -/
def up : State :=
  { silent with
    links := ⟨upUnit bodyWord (some 2), upUnit accessoryWord none⟩,
    auth := ⟨some .body, false, 0, 500, [⟨1, 2500, [65]⟩]⟩ }

/-- No link holds authority. -/
def free : State := { up with auth := { up.auth with holder := none } }

def mapCopy : MapCopy := ⟨⟨focusMap, ⟨⟨0, 280⟩, [⟨16383, 1200⟩]⟩, ⟨⟨0, 0⟩, [⟨16383, 200⟩]⟩⟩, 500, 20⟩

def ms3 : MS3 := ⟨false, .hold, 300⟩

def delivered : Delivered := deliver format worked

def entry (p : Progress) : Entry := ⟨6, 0, 100000, format, 106500, 104000, 102200, 103700, p⟩

def lockedWay : Way := ⟨some ⟨⟨.breathing, 4, 1, 0⟩, .breathing 1021000 120 0, true⟩, 0⟩

def markA : Mark := ⟨1, 2500, [65]⟩

def markB : Mark := ⟨4, 500, [66]⟩

/-- The engine RUNNING, one frame READY, one cell locked by a finished walk, one prefetch queued. -/
def running : State :=
  { up with
    front := { up.front with
      axes := { up.front.axes with focus := rackUnit }, mapCopy := some mapCopy, nextSampling := some 102500 },
    timing := ⟨102200, .locked, some 100000, 20000, 6, format, 0, [entry (.ready delivered)]⟩,
    store := { up.store with sector0Valid := true },
    cache := { up.cache with
      sets := up.cache.sets.set 9 [lockedWay, ⟨none, 1⟩, ⟨none, 2⟩, ⟨none, 3⟩],
      prefetch := [⟨⟨.breathing, 1, 1, 0⟩, 3, false⟩], walk := ⟨.done, some (1, 4), [], 1, 1, 0⟩ },
    engine := ⟨.running, ⟨some ms0, none⟩, ⟨some ⟨100, 2000, true⟩, some ⟨⟨60, 0, false⟩, 0⟩⟩,
      ⟨some ⟨80, 8192⟩, none⟩, ⟨some ms3, none⟩, .none true, ⟨none, none, none⟩,
      some ⟨5590, 1705, 700, 20⟩, 0, none⟩,
    auth := { up.auth with marks := [markB, markA] } }

/-- The state after a command, the reset state where it stops. -/
def ran (c : Instr) (s : State) : State :=
  match exec c s with
  | .next t => t
  | _ => State.reset

/-! ### Steps -/

theorem test_leave_reset : (ran (.leaveReset straps) State.reset).seq.phase = .cacheRam 0 ∧
    pendingWord (ran (.leaveReset straps) State.reset) .body = 0x0040 ∧
    attentionLevel (ran (.leaveReset straps) State.reset) .accessory = some true := by decide +kernel

theorem test_ram_failure : (ran (.cacheRamCheckDone false) (ran (.leaveReset straps) State.reset)).seq.failMask = 1 ∧
    (ran (.cacheRamCheckDone false) (ran (.leaveReset straps) State.reset)).cache.disabled = true ∧
    (ran (.cacheRamCheckDone false) (ran (.leaveReset straps) State.reset)).now = 2000 := by decide +kernel

theorem test_encoder_read : ((ran (.encoderReadComplete .focus 0xACDD)
    { silent with
      seq := { silent.seq with straps := { straps with focusSense := true } },
      front := { silent.front with
        axes := { silent.front.axes with focus := { silent.front.axes.focus with reading := some 102000 } },
        mapCopy := some mapCopy } }).front.axes.focus) =
    ⟨.live, 0, 0, [⟨102000, 5320, true⟩], some ⟨102000, 5320, some 1840⟩, false, none⟩ := by decide +kernel

/-- 2.8: the first two edges of a stream. -/
theorem test_sync_edges : (ran (.syncEdge 3041667) (ran (.syncEdge 3001200) (ran (.syncEdge 3000000) up))).timing =
    ⟨3041667, .locked, some 3041667, 41667, 1, .reset, 2, []⟩ := by decide +kernel

/-- 2.8: one frame's instants. -/
theorem test_entry : (ran (.syncEdge 100000)
    { running with timing := { running.timing with timebase := 90000, lastSync := some 80000, frames := [] } }
    ).timing.frames = [{ entry .waiting with frameNumber := 7 }] := by decide +kernel

theorem test_record_leaves : (ran .dueInstant running).timing.frames = [] ∧
    ((ran .dueInstant running).link .body).sending.map (fun x => (x.1.kind, x.1.payload.length, x.2)) =
      some (0x80, 45, 104000) ∧
    ((ran .dueInstant running).link .accessory).sending.map (fun x => x.1.payload.length) = some 16 := by
  decide +kernel

theorem test_set_anchor : (ran (.setAnchor .body 110000 [0xFF, 0xFF]) up).auth.anchor = 20000 ∧
    (ran (.setAnchor .accessory 110000 [0, 0]) up).auth.anchor = 500 ∧
    ((ran (.setAnchor .accessory 110000 [0, 0]) up).link .accessory).sending = some (⟨0x30, [0x14]⟩, 110000) := by
  decide +kernel

theorem test_marks : ((ran (.setMark .body 0 [3, 0xE8, 0x03, 0xFF]) running).auth.marks).map Mark.id = [4, 3, 1] ∧
    (ran (.setMark .body 0 [1, 0xE8, 0x03, 0xFF]) running).cache.walk.state = .abandoned ∧
    (ran (.deleteMark .body 0 [3]) running).auth.marks = running.auth.marks := by decide +kernel

theorem test_erase : (ran (.eraseSector .accessory 2000 [3]) up).store.op =
      some ⟨.eraseSector, some 3, none, none⟩ ∧
    (ran .storeWorkBegins (ran (.eraseSector .accessory 2000 [3]) up)).store.op =
      some ⟨.eraseSector, some 3, none, some 2000⟩ ∧
    (ran .eraseComplete (ran .storeWorkBegins (ran (.eraseSector .accessory 2000 [3]) up))).store.lastCompletion =
      some ⟨.eraseSector, some 3, none, .done⟩ := by decide +kernel

theorem test_program_verify :
    verifyResult (flashBytes (flashProgram [(10, 0x0F)] 10 [0xFF, 0x55]) 10 2) [0xFF, 0x55] = .verifyFault 0 1 := by
  decide +kernel

theorem test_first_byte : ((ran (.byteReceived .body 3000 0xA5) up).link .body).parser = .inFrame [] 3200 ∧
    ((ran (.byteReceived .body 3000 0x10) up).link .body).parser = .hunting := by decide +kernel

theorem test_bad_crc : pendingWord (ran (.byteReceived .body 3000 0)
    { up with links := { up.links with body := { up.links.body with parser := .inFrame [0x10, 0, 0] 3000 } } }) .body =
    0x8040 := by decide +kernel

/-- A frame leaves as marker, kind, length, payload and CRC, five bytes in 33 µs at 1.5 Mbit/s. -/
theorem test_frame_bytes : (⟨0x10, []⟩ : TxFrame).bytes = [0xA5, 0x10, 0x00] ++ le16 (crc16 [0x10, 0x00]).toNat ∧
    lineBytes (ran .dueInstant running) .body = some (recordFrame (entry (.ready delivered)) delivered).bytes ∧
    frameTime straps .body ⟨0x10, []⟩ = 33 := by decide +kernel

/-- The accessory link has a READ STORE at the port. -/
def reading : State :=
  { up with store := { up.store with port := some ⟨.readStore ⟨2, 0, 1⟩ false, 1000⟩ } }

/-- R149: the refusal of a second READ STORE waits for the reply of the first and leaves behind it. -/
theorem test_refusal_held_back :
    ((ran (.readStore .accessory 2000 [2, 0, 0, 1]) reading).link .accessory).heldBack = [⟨0x44, [0x17]⟩] ∧
    ((ran (.readStore .accessory 2000 [2, 0, 0, 1]) reading).link .accessory).sending = none ∧
    ((ran .readStoreReadEnd (ran (.readStore .accessory 2000 [2, 0, 0, 1]) reading)).link .accessory).sending =
      some (⟨0x44, [0, 0xFF]⟩, 2000) ∧
    ((ran .readStoreReadEnd (ran (.readStore .accessory 2000 [2, 0, 0, 1]) reading)).link .accessory).replies =
      [⟨0x44, [0x17]⟩] := by decide +kernel

theorem test_idle_step : (match step silent with | .next t => t.now | _ => 0) = 1001 := by decide +kernel

/-! ### The statements' hypotheses are met -/

theorem test_hyps_idle : State.reset.pending = [] ∧ State.reset.isHeld = true ∧ silent.isHeld = false := by
  decide +kernel

theorem storeLaw_running : StoreLaw running := by unfold StoreLaw; decide +kernel

theorem engineLaw_running : EngineLaw running := by unfold EngineLaw; decide +kernel

theorem marksLaw_running : MarksLaw running := by unfold MarksLaw; decide +kernel

/-- A step of `running` with a record due. -/
def stepping : State := { running with pending := [.dueInstant] }

theorem stepping_answers : ∃ t, step stepping = .next t := ⟨ran .dueInstant running, rfl⟩

theorem test_hyps_storeLaw : StoreLaw stepping ∧ ∃ t, step stepping = .next t :=
  ⟨storeLaw_running, stepping_answers⟩

theorem test_hyps_eventLaw : EventLaw stepping ∧ ∃ t, step stepping = .next t :=
  ⟨by show _ ∧ _ ∧ _; unfold UnitLaw; decide +kernel, stepping_answers⟩

theorem test_hyps_engineLaw : EngineLaw stepping ∧ ∃ t, step stepping = .next t :=
  ⟨engineLaw_running, stepping_answers⟩

theorem test_hyps_authorityLaw : AuthorityLaw stepping ∧ ∃ t, step stepping = .next t :=
  ⟨⟨fun l h => (by cases l <;> rfl), fun h => (by cases h), by decide +kernel⟩, stepping_answers⟩

theorem test_hyps_marksLaw : MarksLaw stepping ∧ ∃ t, step stepping = .next t :=
  ⟨marksLaw_running, stepping_answers⟩

theorem test_hyps_powerLaw : PowerLaw stepping ∧ ∃ t, step stepping = .next t :=
  ⟨⟨by decide +kernel, by decide +kernel, fun p h => (by cases h; decide), fun r v h g => (by cases h; cases g; decide)⟩,
    stepping_answers⟩

theorem test_hyps_queueLaw : QueueLaw stepping ∧ ∃ t, step stepping = .next t :=
  ⟨by unfold QueueLaw; decide +kernel, stepping_answers⟩

theorem test_hyps_frameLaw : FrameLaw stepping ∧ ∃ t, step stepping = .next t :=
  ⟨⟨by decide +kernel, trivial, trivial, by decide +kernel⟩, stepping_answers⟩

theorem test_hyps_streamLaw : StreamLaw stepping ∧ ∃ t, step stepping = .next t :=
  ⟨by unfold StreamLaw; decide +kernel, stepping_answers⟩

theorem axisLaw_running : AxisLaw running := by
  intro a; cases a <;> unfold AxisUnitLaw <;> refine ⟨by decide +kernel, by decide +kernel, by decide +kernel, ?_⟩ <;>
    first | exact ⟨rfl, rfl⟩ | exact ⟨by decide, rfl, rfl⟩

theorem test_hyps_axisLaw : AxisLaw stepping ∧ ∃ t, step stepping = .next t :=
  ⟨axisLaw_running, stepping_answers⟩

theorem holds_of {α : Type} {p : α → Prop} {x : α} (h : p x) : ModeSet.Holds p ⟨some x, none⟩ :=
  ⟨fun y g => by cases g; exact h, fun y g => by cases g⟩

theorem test_hyps_settingsLaw : SettingsLaw stepping ∧ ∃ t, step stepping = .next t := by
  refine ⟨⟨by unfold FormatInRange; decide +kernel, ?_, holds_of (by unfold MS0.InRange; decide +kernel),
    ⟨fun y g => by cases g; exact ⟨by decide, by decide⟩, fun y g => by cases g; exact ⟨⟨by decide, by decide⟩, by decide⟩⟩,
    holds_of ⟨by decide, by decide, by decide⟩, holds_of ⟨by decide, by decide⟩⟩, stepping_answers⟩
  intro e he
  simp only [stepping, running, List.mem_singleton] at he
  subst he
  unfold FormatInRange; decide +kernel

theorem setLaw_emptySet (i : Nat) : SetLaw i emptySet := by
  refine ⟨rfl, by decide, by decide, ?_, by decide⟩
  intro w hw c hc
  simp only [emptySet, List.mem_cons, List.not_mem_nil, or_false] at hw
  rcases hw with rfl | rfl | rfl | rfl <;> cases hc

theorem test_hyps_cacheLaw : CacheLaw stepping ∧ ∃ t, step stepping = .next t := by
  refine ⟨⟨by decide +kernel, ?_, ⟨?_, ?_, ?_, ?_⟩, fun h => (by cases h)⟩, stepping_answers⟩
  · intro i ways h
    simp only [stepping, running, up, silent, State.reset, Cache.reset, List.getElem?_set, List.length_replicate,
      List.getElem?_replicate] at h
    by_cases h9 : 9 = i
    · subst h9
      simp only [if_true, Nat.reduceLT] at h
      cases h
      refine ⟨rfl, by decide, by decide, ?_, by decide⟩
      intro w hw c hc
      simp only [lockedWay, List.mem_cons, List.not_mem_nil, or_false] at hw
      rcases hw with rfl | rfl | rfl | rfl <;> cases hc
      rfl
    · rw [if_neg h9] at h
      split at h
      · cases h; exact setLaw_emptySet i
      · cases h
  · intro h; cases h
  · intro _; rfl
  · intro _; rfl
  · intro k cell g t h; cases h

theorem test_hyps_linkLaw : EngineLaw stepping ∧ LinkLaw stepping ∧ ∃ t, step stepping = .next t := by
  refine ⟨engineLaw_running, ⟨?_, by decide +kernel, fun r t h => (by cases h), by decide +kernel,
    fun h => by cases h⟩, stepping_answers⟩
  intro l; cases l <;> unfold LinkUnitLaw <;> decide +kernel

/-! Starts. -/

def working (name : StoreOpName) (sector : Option (BitVec 3)) (page : Option (BitVec 8)) : State :=
  { up with store := { up.store with op := some ⟨name, sector, page, some 1000⟩ } }

/-- The bytes on both sides of a cut-off erase, an operation whose work has not begun, and both ways of being held. -/
theorem test_hyps_resets : StoreLaw (working .eraseSector (some 3) none) ∧
    cutOffRange ⟨.eraseSector, some 3, none, some 1000⟩ = some (196608, 65536) ∧
    (196607 < 196608 ∧ 196608 + 65536 ≤ 262144) ∧ cutOffRange ⟨.eraseSector, some 3, none, none⟩ = none ∧
    decide (up.seq.phase = .held true) = false ∧
    decide (State.reset.seq.phase = .held true) = true ∧ (ran .pinReset up).seq.phase = .held false := by
  unfold StoreLaw; decide +kernel

def testing (tests : PerAxis EncoderTest) : State :=
  { State.reset with seq := { State.reset.seq with phase := .encoders 2000 tests } }

def inPhase (p : Phase) : State := { State.reset with seq := { State.reset.seq with phase := p } }

theorem test_hyps_selfTest : (inPhase (.cacheRam 0)).seq.phase = .cacheRam 0 ∧
    (∀ a n, (⟨.waiting 1, .passed, .notRead⟩ : PerAxis EncoderTest).get a ≠ .reading n) ∧
    (⟨.waiting 1, .passed, .notRead⟩ : PerAxis EncoderTest).get .focus = .waiting 1 ∧
    (testing ⟨.reading 2, .reading 2, .notRead⟩).seq.phase = .encoders 2000 ⟨.reading 2, .reading 2, .notRead⟩ ∧
    (∀ b m, ((⟨.reading 3, .passed, .notRead⟩ : PerAxis EncoderTest).set .focus .failed).get b ≠ .reading m ∧
      ((⟨.reading 3, .passed, .notRead⟩ : PerAxis EncoderTest).set .focus .failed).get b ≠ .waiting m) ∧
    (inPhase (.marker false 0)).seq.phase = .marker false 0 := by
  refine ⟨rfl, ?_, rfl, rfl, ?_, rfl⟩
  · intro a n; cases a <;> exact nofun
  · intro b m; cases b <;> exact ⟨nofun, nofun⟩

theorem test_hyps_scans : (inPhase (.scan false 0)).seq.phase = .scan false 0 ∧
    (inPhase (.scan true 0)).seq.phase = .scan true 0 ∧ (inPhase (.scan true 0)).engine = .reset ∧
    (inPhase (.scan false 0)).link .body = .reset ∧ (inPhase (.scan false 0)).seq.reinit = .idle ∧
    (working .rescanTables none none).seq.phase = .finished ∧
    (working .rescanTables none none).engine.state.runs = false := by decide +kernel

/-- A kind whose choice a scan of erased flash changes, and one whose choice it leaves. -/
theorem test_hyps_scanCache : tableTag (some ⟨1, 3, [0, 500], [280, 500], [0], 0⟩) ≠
      tableTag (chooseTable (working .rescanTables none none).store.flash .breathing) ∧
    tableTag ((working .rescanTables none none).active .shading) =
      tableTag (chooseTable (working .rescanTables none none).store.flash .shading) := by decide +kernel

/-- A breathing table of two focus knots and one zoom knot, as a sector holds it. -/
def tableBytes (generation : Nat) : List Byte :=
  let covered := [0] ++ le16 generation ++ le16 33 ++ le16 0 ++ [2, 1] ++ le16 0 ++ le16 500 ++ le16 280 ++
    List.replicate 16 0#8
  le16 (crc16 covered).toNat ++ covered

/-- Sectors 1, 2 and 5 hold tables, the second and third of one generation. -/
def threeTables : List Host.Cell :=
  flashProgram (flashProgram (flashProgram [] 65536 (tableBytes 3)) 131072 (tableBytes 4)) 327680 (tableBytes 4)

def qualifiesAs (k : TableKind) (m : List Host.Cell) (n : BitVec 3) : Bool :=
  n != 0 && n != 7 && decide (sectorVerdict m n = .valid) && (flashRead m (65536 * n.toNat + 2)).toNat == k.code

/-- A kind with a table of the highest generation in two sectors, a kind with none, and erased flash's map, which ends
before its second count. -/
theorem test_hyps_choice :
    ([0, 1, 2, 3, 4, 5, 6, 7] : List (BitVec 3)).filter (qualifiesAs .breathing threeTables) = [1, 2, 5] ∧
    ([0, 1, 2, 3, 4, 5, 6, 7] : List (BitVec 3)).filter (qualifiesAs .shading threeTables) = [] ∧
    (chooseTable threeTables .breathing).map ActiveTable.sector = some 2 ∧
    (descriptionAt []).maps.focus.first.count = 65535 ∧ (descriptionAt []).maps.focus.rest = [] := by decide +kernel

/-! The encoder front end. -/

def readingAt (u : AxisUnit) : State :=
  { running with front := { running.front with axes := { running.front.axes with focus := { u with reading := some 102500 } } } }

theorem test_hyps_sampling : running.front.nextSampling = some 102500 ∧
    ∀ a, (running.front.axes.get a).reading = none := ⟨rfl, fun a => by cases a <;> rfl⟩

theorem test_hyps_encoderAnswer : ((readingAt rackUnit).front.axes.get .focus).reading = some 102500 ∧
    answerValid 0xFFFF = false ∧ answerValid 0x0000 = true ∧ answerValid 0xACDD = true ∧
    senseHigh (readingAt rackUnit).seq.straps .focus = false := by decide +kernel

theorem axisLaw_readingAt (u : AxisUnit) (h : AxisUnitLaw true { u with reading := some 102500 }) :
    AxisLaw (readingAt u) := by
  intro a
  cases a
  · exact h
  · exact axisLaw_running .zoom
  · exact axisLaw_running .iris

/-- Each row of R8's table: LOST before and at its second valid sample, SEEKING and STALE at the last run that
keeps them and at the one that does not. -/
theorem test_hyps_sampleMoves : AxisLaw (readingAt rackUnit) ∧
    AxisLaw (readingAt { rackUnit with state := .lost, invalidRun := 8 }) ∧
    AxisLaw (readingAt { rackUnit with state := .lost, invalidRun := 8, validRun := 1 }) ∧
    AxisLaw (readingAt { rackUnit with state := .stale, invalidRun := 7 }) ∧
    AxisLaw (readingAt { rackUnit with state := .stale, invalidRun := 6 }) ∧
    AxisLaw (readingAt { rackUnit with state := .seeking, invalidRun := 7, latest := none }) := by
  refine ⟨?_, ?_, ?_, ?_, ?_, ?_⟩ <;> refine axisLaw_readingAt _ ⟨by decide, by decide, by decide, ?_⟩ <;>
    simp [rackUnit]

def noCopy (s : State) : State := { s with front := { s.front with mapCopy := none } }

/-- A valid sample with the map copy, its count inside the map and below it, and one without. -/
theorem test_hyps_sampleRecords : (readingAt rackUnit).front.mapCopy = some mapCopy ∧
    answerValid (BitVec.ofNat 16 (4 * 5320 + 1)) = true ∧ outsideOf mapCopy.maps.focus 5320 = false ∧
    answerValid (BitVec.ofNat 16 (4 * 900)) = true ∧ outsideOf mapCopy.maps.focus 900 = true ∧
    AxisLaw (noCopy (readingAt rackUnit)) := by
  refine ⟨rfl, by decide, by decide, by decide, by decide, fun a => ?_⟩
  exact axisLaw_readingAt rackUnit (by refine ⟨by decide, by decide, by decide, ?_⟩; simp [rackUnit]) a

theorem test_hyps_conversion : (focusMap.first :: focusMap.rest).Pairwise (fun p q => p.count < q.count) ∧
    focusMap.first :: focusMap.rest = [] ++ ⟨1200, 12000⟩ :: ⟨3000, 4000⟩ :: focusMap.rest.drop 1 ∧
    (1200 < 1201 ∧ 3000 ≤ 3000) ∧ 1199 < focusMap.first.count ∧
    focusMap.first :: focusMap.rest = (focusMap.first :: focusMap.rest).dropLast ++ [⟨14500, 0⟩] ∧
    14500 < 14501 := by decide +kernel

def gapTo (target : Instant) (x : Sample) : Nat := (instantDiff x.instant target).natAbs

/-- A lone sample, the sample one span before the newest, and the older of two equally near. -/
theorem test_hyps_velocity : [(⟨7, 1, true⟩ : Sample)] = [] ++ [⟨7, 1, true⟩] ∧ rack.filter Sample.valid = rack ∧
    rack.head? = some ⟨99500, 5180, true⟩ ∧
    rack = [⟨99500, 5180, true⟩] ++ ⟨100000, 5200, true⟩ :: rack.drop 2 ∧
    rack = rack.dropLast ++ [⟨102000, 5320, true⟩] ∧
    (∀ y ∈ rack.take 1, gapTo 100000 ⟨100000, 5200, true⟩ < gapTo 100000 y) ∧
    (∀ y ∈ rack.drop 2, gapTo 100000 ⟨100000, 5200, true⟩ ≤ gapTo 100000 y) ∧
    gapTo 99750 ⟨99500, 5180, true⟩ = gapTo 99750 ⟨100000, 5200, true⟩ := by decide +kernel

/-- A target past the newest sample, on it, on the oldest, between two, and before the oldest. -/
theorem test_hyps_count : 0 < instantDiff 102001 102000 ∧ instantDiff 102000 102000 ≤ 0 ∧
    0 ≤ instantDiff 99500 99500 ∧
    ((∀ z ∈ rack.take 1 ++ [⟨100000, 5200, true⟩], instantDiff z.instant 100250 < 0) ∧
      ∀ z ∈ (⟨100500, 5230, true⟩ : Sample) :: rack.drop 3, 0 < instantDiff z.instant 100250) ∧
    rack = rack.take 1 ++ ⟨100000, 5200, true⟩ :: ⟨100500, 5230, true⟩ :: rack.drop 3 ∧
    instantDiff 99499 99500 < 0 := by decide +kernel

/-- A moving axis, one within the deadband, and a held axis at its record, its latest sample and its map's start. -/
theorem test_hyps_predictions : (predictAxis ms0 106500 rackUnit none focusMap).velocity =
      some (⟨100000, 5200, true⟩, ⟨102000, 5320, true⟩) ∧
    (predictAxis { ms0 with deadband := 64, span := 500 } 106500 rackUnit none focusMap).velocity = none ∧
    (predictAxis ms0 106500 { rackUnit with state := .lost } (some 7) focusMap).count = 7 ∧
    (predictAxis ms0 106500 { rackUnit with state := .lost } none focusMap).count = 5320 ∧
    (predictAxis ms0 106500 { rackUnit with state := .seeking, latest := none } none focusMap).count = 1200 := by
  decide +kernel

theorem test_hyps_distance : unitsValue running .focus = some 1840 ∧ focusDistance 15 = 65535 ∧
    focusDistance 16 = 62500 ∧ focusDistance 20000 = 50 := by decide +kernel

/-! Frame timing. -/

/-- `running` at 1 102 200 µs, its last accepted sync a given time before. -/
def lastSyncBefore (n : Nat) : State :=
  { running with timing := { running.timing with lastSync := some (BitVec.ofNat 32 (1102200 - n)), timebase := 1102200 } }

theorem test_hyps_syncEdge : running.isHeld = false ∧ EngineLaw (lastSyncBefore 1999) ∧
    instantDiff (laterOf 0 1102200) (BitVec.ofNat 32 (1102200 - 1999)) < 2000 ∧
    instantDiff (laterOf 0 1102200) (BitVec.ofNat 32 (1102200 - 2000)) = 2000 ∧
    instantDiff (laterOf 0 1102200) (BitVec.ofNat 32 (1102200 - 1000000)) = 1000000 ∧
    1000000 < instantDiff (laterOf 0 1102200) (BitVec.ofNat 32 (1102200 - 1000001)) ∧
    EngineLaw up ∧ up.timing.stream = .noStream := by
  unfold EngineLaw; decide +kernel

/-- An engine in STANDBY with the body link UP and the stream about to lock, with either selection. -/
def standingBy (pattern : Bool) : State :=
  { running with
    timing := { running.timing with stream := .acquiring, period := 0, frames := [] },
    engine := { running.engine with
      state := .standby, ms1 := ⟨running.engine.ms1.inForce, none⟩, ms3 := ⟨some { ms3 with pattern := pattern }, none⟩ } }

def busy (s : State) : State := { s with store := { s.store with op := some ⟨.rescanTables, none, none, none⟩ } }

theorem engineLaw_standingBy (pattern : Bool) : EngineLaw (standingBy pattern) := by
  cases pattern <;> unfold EngineLaw <;> decide +kernel

theorem engineLaw_busy : EngineLaw (busy (standingBy true)) := by unfold EngineLaw; decide +kernel

theorem test_hyps_engineEnters : EngineLaw (standingBy false) ∧ EngineLaw (standingBy true) ∧
    EngineLaw (busy (standingBy true)) ∧ (standingBy true).timing.lastSync = some 100000 ∧
    ((standingBy true).link .body).state = .up ∧ (standingBy true).store.op = none ∧
    patternSelected (standingBy false).engine = false ∧ patternSelected (standingBy true).engine = true ∧
    (busy (standingBy true)).store.op ≠ none :=
  ⟨engineLaw_standingBy _, engineLaw_standingBy _, engineLaw_busy, by decide +kernel⟩

theorem test_enters_running : (ran (.syncEdge 120000) (standingBy false)).engine.state = .running ∧
    (ran (.syncEdge 120000) (standingBy true)).engine.state = .pattern ∧
    (ran (.syncEdge 120000) (busy (standingBy true))).engine.state = .standby := by decide +kernel

def fullList : State := { running with timing := { running.timing with frames := List.replicate 8 (entry .waiting) } }

theorem test_hyps_syncEntry : EngineLaw running ∧ running.engine.state.runs = true ∧
    running.timing.lastSync = some 100000 ∧ 2000 ≤ instantDiff (laterOf 102000 102200) 100000 ∧
    running.engine.ms0.onSync.inForce = some ms0 ∧ running.engine.ms3.onSync.inForce = some ms3 ∧
    running.timing.frames.length < 8 ∧ EngineLaw fullList ∧ fullList.timing.frames.length = 8 := by
  unfold EngineLaw; decide +kernel

theorem test_hyps_streamTimeout : EngineLaw running ∧ running.timing.stream ≠ .noStream ∧
    running.timing.lastSync = some 100000 := by unfold EngineLaw; decide +kernel

/-! Computations and records. -/

def withFrames (e : EngineState) (frames : List Entry) : State :=
  { running with timing := { running.timing with frames := frames }, engine := { running.engine with state := e } }

def inputs : Inputs := ⟨ms0, ⟨100, 2000, true⟩, ⟨80, 8192⟩, ms3, mapCopy⟩

def waiting (n : Need) : Computation := { worked with breathing := .gathering ⟨0, 1, 0, false⟩ ⟨0, 1, 0, false⟩ ⟨0, 1, 0, false⟩ [n] }

/-- Both selections, a computation that awaits nothing, and one with a cell to await at its cutoff. -/
theorem test_hyps_computations :
    (withFrames .running [entry (.ready delivered), entry .waiting]).timing.frames =
      [entry (.ready delivered)] ++ entry .waiting :: [] ∧
    inputsOf (withFrames .pattern [entry .waiting]) = some inputs ∧
    (openComputation inputs (predictFrame ms0 106500 mapCopy running) running).2.settled = true ∧
    (waiting ⟨⟨.breathing, 0, 0, 0⟩, none⟩).settled = false ∧ instantDiff 102200 103700 < 0 ∧
    (withFrames .running [entry (.computing worked)]).timing.frames = [] ++ entry (.computing worked) :: [] := by
  decide +kernel

def table : ActiveTable := ⟨1, 3, [0, 500], [280, 500], [0], 0⟩

/-- A breathing table is active, and a frame waits. -/
def tabled : State :=
  let s := withFrames .running [entry .waiting]
  { s with store := { s.store with breathing := some table } }

/-- A computation that must await a cell, and a quantity without a table. -/
theorem test_hyps_computationAwaits : inputsOf tabled = some inputs ∧ tabled.engine.state = .running ∧
    (openComputation inputs (predictFrame ms0 106500 mapCopy tabled) tabled).2.settled = false ∧
    1 ≤ ((tabled.link .body).recordLevel.getD 0) ∧ tabled.store.shading = none ∧
    instantDiff (laterOf 102200 tabled.now) 103700 < 0 := by decide +kernel

theorem test_hyps_recordLeaves : running.timing.frames = entry (.ready delivered) :: [] ∧
    ∃ t, exec .streamTimeout running = .next t := ⟨rfl, _, rfl⟩

theorem test_hyps_delivered : FormatInRange format ∧ worked.breathing ≠ .notFormed ∧ worked.ms1.slewLimit ≠ 0 ∧
    worked.previous.scale = some 981000 ∧ (deliver format worked).flags.first = false ∧
    4096 ≤ worked.ms2.gainCap ∧ (deliver format worked).gains.length = 9 ∧
    ({ worked with breathing := .held, shading := .held } : Computation).breathing = .held := by
  unfold FormatInRange; decide +kernel

/-- Each row of R107 at its ends, and the other forms of each quantity. -/
theorem test_hyps_deliveredValues : [280, 500, 850].Pairwise (fun a b => a < b) ∧ 2 ≤ [280, 500, 850].length ∧
    (280 ≤ 280 ∧ [280, 500, 850] = [280, 500] ++ [850] ∧ 850 ≤ 850) ∧
    ([280, 500, 850] = [] ++ 280 :: 500 :: [850] ∧ 280 ≤ 281 ∧ 281 < 500) ∧ (500 ≤ 849 ∧ 849 < 850) ∧
    worked.breathing = .gathering ⟨4, 5, 1679, false⟩ ⟨2, 3, 0, false⟩ ⟨1, 2, 2341, false⟩ breathingNeeds ∧
    worked.shading = .gathering ⟨0, 1, 0, false⟩ ⟨0, 1, 0, false⟩ ⟨0, 1, 0, false⟩ 21600 shadingNeeds ∧
    ({ worked with shading := .held } : Computation).policy = .hold ∧
    ({ worked with breathing := .held, policy := .neutral } : Computation).policy = .neutral := by decide +kernel

/-! The port and the store's operations. -/

def fillEntry (i : Nat) (reading : Bool) : FillEntry := ⟨⟨.breathing, i, 0, 0⟩, 3, reading⟩

/-- The queue, the walk and a READ STORE that wait for the port. -/
def serving (demand prefetch : List FillEntry) (walk : Walk) (reads : List ReadRequest) : State :=
  { up with
    store := { up.store with breathing := some table, readStoreWaiting := reads },
    cache := { up.cache with demand := demand, prefetch := prefetch, walk := walk } }

theorem test_hyps_portServes : (serving [] [] .idleRecord []).started = true ∧
    (serving [fillEntry 0 false] [] .idleRecord []).cache.demand = [] ++ fillEntry 0 false :: [] ∧
    (serving [fillEntry 0 false] [] .idleRecord []).active .breathing = some table ∧
    (serving [] [] ⟨.walking, some (1, 4), [⟨.breathing, 0, 0, 0⟩], 1, 0, 0⟩ []).cache.walk.state = .walking ∧
    (serving [] [fillEntry 1 false] .idleRecord []).cache.prefetch = [] ++ fillEntry 1 false :: [] ∧
    (serving [] [] .idleRecord [⟨2, 0, 4⟩]).store.readStoreWaiting = [⟨2, 0, 4⟩] := by decide +kernel

def onPort (job : PortJob) : State :=
  let s := serving [fillEntry 0 true] [] ⟨.walking, some (1, 4), [⟨.breathing, 1, 0, 0⟩], 1, 0, 0⟩ []
  { s with store := { s.store with port := some ⟨job, 1000⟩ } }

theorem test_hyps_portEnds :
    readEntry ⟨.breathing, 0, 0, 0⟩ (onPort (.fill ⟨.breathing, 0, 0, 0⟩ (.breathing 1000000 0 0))).cache =
      some (fillEntry 0 true) ∧
    (((onPort (.fill ⟨.breathing, 0, 0, 0⟩ (.breathing 1000000 0 0))).active .breathing).map
      ActiveTable.generation = some 3 ∧ some 3 ≠ some 4) ∧
    (onPort (.walk ⟨.breathing, 1, 0, 0⟩ (.breathing 1000000 0 0) 3 false)).cache.walk.rest = [⟨.breathing, 1, 0, 0⟩] ∧
    (serving [] [] .idleRecord []).cache.walk.state ≠ .walking ∧
    (onPort (.readStore ⟨2, 0, 4⟩ true)).store.port = some ⟨.readStore ⟨2, 0, 4⟩ true, 1000⟩ := by decide +kernel

/-- The port reads `key` for a computation that awaits the cells of `keys`, the read having begun at an instant. -/
def awaiting (keys : List Key) (since : Instant) : State :=
  let key : Key := ⟨.breathing, 0, 0, 0⟩
  let c := { worked with
    breathing := .gathering ⟨0, 1, 0, false⟩ ⟨0, 1, 0, false⟩ ⟨0, 1, 0, false⟩ (keys.map fun k => ⟨k, none⟩) }
  let s := withFrames .running [entry (.computing c)]
  { s with
    store := { s.store with breathing := some table, port := some ⟨.fill key (.breathing 1000000 0 0), since⟩ },
    cache := { s.cache with demand := [⟨key, 3, true⟩] } }

def endedEntry (e : Entry) : Bool :=
  match e.progress with
  | .ready _ => true
  | _ => false

/-- A fill of the active generation that settles the computation, one that does not, and one that comes too late. -/
theorem test_hyps_fillIsReceived :
    ((awaiting [] 1).active .breathing).map ActiveTable.generation = some (fillEntry 0 true).generation ∧
    (ran .fillComplete (awaiting [⟨.breathing, 0, 0, 0⟩] 102000)).timing.frames.map
      endedEntry = [true] ∧
    instantDiff (ran .fillComplete (awaiting [⟨.breathing, 0, 0, 0⟩] 103676)).now 103700 = 0 ∧
    (ran .fillComplete (awaiting [⟨.breathing, 0, 0, 0⟩, ⟨.breathing, 0, 1, 0⟩] 102000)).timing.frames.map
      endedEntry = [false] ∧
    0 < instantDiff (ran .fillComplete (awaiting [⟨.breathing, 0, 0, 0⟩] 103677)).now 103700 := by decide +kernel

/-- A walk's read of the active generation, and one of another. -/
theorem test_hyps_walkGeneration :
    ((onPort (.walk ⟨.breathing, 1, 0, 0⟩ (.breathing 1000000 0 0) 3 false)).active .breathing).map
      ActiveTable.generation = some 3 ∧ some 3 ≠ some 4 := by decide +kernel

def taken (name : StoreOpName) (sector : Option (BitVec 3)) (page : Option (BitVec 8)) : State :=
  { up with store := { up.store with op := some ⟨name, sector, page, none⟩ } }

theorem test_hyps_erase : (taken .eraseSector (some 3) none).store.port = none ∧
    StoreOpName.eraseSector ≠ .clearReadProtection ∧
    (working .eraseSector (some 3) none).store.op = some ⟨.eraseSector, some 3, none, some 1000⟩ ∧
    (working .eraseSector (some 3) none).engine.state.runs = false := by decide +kernel

/-- A page that verifies, and one whose last byte does not. -/
theorem test_hyps_program : StoreLaw (working .programPage (some 3) (some 255)) ∧
    (∀ i < 256, flashRead [] (65536 * 3 + 256 * 255 + i) &&& (List.replicate 256 0xFF#8).getD i 0 =
      (List.replicate 256 0xFF#8).getD i 0) ∧
    (flashRead [(262143, 0x0F)] (65536 * 3 + 256 * 255 + 255) &&& 0xFF#8 ≠ 0xFF#8 ∧
      ∀ j < 255, flashRead [(262143, 0x0F)] (65536 * 3 + 256 * 255 + j) &&& 0xFF#8 = 0xFF#8) := by
  unfold StoreLaw; decide +kernel

theorem test_hyps_readProtection : StoreLaw (working .setReadProtection none none) ∧
    (taken .clearReadProtection (some 1) none).store.port = none ∧ (1 : BitVec 3) ≠ 0 ∧ (7 : BitVec 3) ≠ 0 ∧
    (working .clearReadProtection (some 6) none).store.op = some ⟨.clearReadProtection, some 6, none, some 1000⟩ := by
  unfold StoreLaw; decide +kernel

/-- A marker area the pattern reaches, one it misses in its last byte, and the last sector of a clear. -/
theorem test_hyps_markerVerify :
    (∀ i < 16, flashRead [] (458752 + i) &&& markerPattern.getD i 0 = markerPattern.getD i 0) ∧
    flashRead [(458767, 0)] (458752 + 15) &&& markerPattern.getD 15 0 ≠ markerPattern.getD 15 0 ∧
    (∀ j < 15, flashRead [(458767, 0)] (458752 + j) &&& markerPattern.getD j 0 = markerPattern.getD j 0) ∧
    (working .setReadProtection none none).engine.state.runs = false ∧
    (working .clearReadProtection (some 7) none).store.op = some ⟨.clearReadProtection, some 7, none, some 1000⟩ := by
  decide +kernel

theorem test_hyps_valuesChange : writesFlash .tableScanEnd = false ∧ restarts .tableScanEnd = false ∧
    mayBeAnyRequest .tableScanEnd = false ∧ ∃ t, exec .tableScanEnd silent = .next t := ⟨rfl, rfl, rfl, _, rfl⟩

/-! Links. -/

def linkAs (u : LinkUnit) : State := { silent with links := { silent.links with body := u } }

def goodFrame : List Byte := [0x10, 0, BitVec.ofNat 8 (crc16 [0x10, 0]).toNat, BitVec.ofNat 8 ((crc16 [0x10, 0]).toNat / 256)]

theorem test_hyps_bytes : up.started = true ∧ (up.link .body).parser = .hunting ∧
    ((linkAs { LinkUnit.reset with parser := .inFrame [] 1100 }).link .body).parser = .inFrame [] 1100 ∧
    ([] ++ [0x10#8]).length < 2 ∧ (byteAt [0x10, 240] 1 ≤ 240 ∧ [0x10#8, 240].length < 240 + 4) ∧
    240 < byteAt [0x10, 241] 1 ∧ crcAgrees [0x10, 0, 0, 0] 0 = false ∧
    (0 + 4 ≤ goodFrame.length ∧ crcAgrees goodFrame 0 = true) := by decide +kernel

def detecting (count : Nat) : LinkUnit :=
  { LinkUnit.reset with
    state := .abilityDetect, matchCount := count, previousWord := some bodyWord, timeout := some 5000,
    sendDue := some 2000, latchedLevel := some 2 }

def acknowledging : LinkUnit :=
  { LinkUnit.reset with
    state := .acknowledge, matchCount := 3, acceptedWord := some bodyWord, timeout := some 5000,
    sendDue := some 2000, latchedLevel := some 2 }

def word : MasterWord := ⟨2, .claim, 5, false⟩

theorem test_hyps_ability : masterWord [2, 2, 5, 0] = none ∧ masterWord [2, 2, 5, 0, 0] = some word ∧
    masterWord [3, 2, 5, 0, 0] = none ∧ masterWord [2, 2, 0xFF, 0x0F, 0] = some { word with seed := 4095 } ∧
    masterWord [2, 2, 0, 0x10, 0] = none ∧ (silent.link .body).state = .silent ∧
    (sameWord bodyWord word = true ∧ (detecting 1).matchCount + 1 < 3 ∧ 3 ≤ (detecting 2).matchCount + 1) ∧
    sameWord bodyWord { word with seed := 6 } = false ∧ word.acknowledge = false ∧
    (masterWord [2, 2, 5, 0, 1] = some bodyWord ∧ sameWord bodyWord bodyWord = true ∧ bodyWord.acknowledge = true) ∧
    ((linkAs acknowledging).link .body).state = .acknowledge ∧
    ((linkAs acknowledging).link .accessory).state ≠ .up ∧ (up.link .body).state = .up := by decide +kernel

/-- The body link about to enter UP with the accessory link there, two AUTO words of one seed. -/
def meeting (equalSeeds : Nat) : State :=
  { silent with
    links := ⟨{ acknowledging with acceptedWord := some accessoryWord }, upUnit accessoryWord none⟩,
    auth := { silent.auth with equalSeeds := equalSeeds } }

theorem test_hyps_bothUp (n : Nat) : (meeting n).started = true ∧ ((meeting n).link .body).state = .acknowledge ∧
    ((meeting n).link (otherLink .body)).state = .up ∧
    ((meeting n).link (otherLink .body)).acceptedWord = some accessoryWord ∧
    sameWord accessoryWord accessoryWord = true ∧ accessoryWord.acknowledge = true ∧
    resolveBoth accessoryWord accessoryWord = .equalSeeds ∧ resolveBoth bodyWord bodyWord = .conflict ∧
    resolveBoth bodyWord accessoryWord = .holder (some .body) ∧
    (meeting 5).auth.equalSeeds < 6 ∧ 6 ≤ (meeting 6).auth.equalSeeds :=
  ⟨rfl, rfl, rfl, rfl, rfl, rfl, rfl, rfl, rfl, by decide, by decide⟩

theorem test_hyps_linkTimers : ((linkAs (detecting 1)).link .body).sendDue = some 2000 ∧
    ((linkAs (detecting 1)).link .body).timeout = some 5000 ∧
    ((linkAs acknowledging).link .body).timeout = some 5000 ∧ (up.link .body).timeout = some 250000 := by
  decide +kernel

def sendingFrame (f : TxFrame) (u : LinkUnit) : State :=
  { up with links := { up.links with body := { u with sending := some (f, 1000) } } }

def report : TxFrame := ⟨0x81, []⟩

theorem test_hyps_transmitters :
    ((sendingFrame report (up.link .body)).link .body).sending = some (report, 1000) ∧ report ≠ ⟨0x16, [0]⟩ ∧
    report ≠ ⟨0x17, [0]⟩ ∧ (up.link .body).renegotiateDue = false ∧ up.seq.reinit ≠ .due ∧
    (up.link .body).sending = none ∧
    ({ up.link .body with records := [report] } : LinkUnit).records = report :: [] ∧
    ({ up.link .body with replies := [report] } : LinkUnit).replies = report :: [] ∧
    (up.link .body).records = [] ∧ (up.link .body).replies = [] ∧
    ((acknowledging : LinkUnit).records = [] ∧ ({ acknowledging with abilityWaiting := true } : LinkUnit).abilityWaiting = true) ∧
    (⟨0x3B, List.replicate 240 0#8⟩ : TxFrame).payload.length ≤ 240 ∧
    ({ up with engine := { up.engine with reportDue := some 20000 } } : State).engine.reportDue = some 20000 ∧
    (up.link .accessory).state = .up ∧ up.engine.state.runs = false := by decide +kernel

theorem serves_up (l : Link) : Serves l up := by cases l <;> exact ⟨rfl, rfl, rfl, rfl⟩

theorem mayCommand_body : MayCommand .body up := ⟨rfl, fun h g => by cases g; rfl⟩

theorem mayCommand_free (l : Link) : MayCommand l free := ⟨rfl, fun h g => by cases g⟩

theorem test_hyps_renegotiate : Serves .accessory up ∧
    ((sendingFrame ⟨0x16, [0]⟩ (up.link .body)).link .body).state = .up ∧
    ((linkAs { upUnit bodyWord (some 2) with renegotiateDue := true }).link .body).renegotiateDue = true :=
  ⟨serves_up _, by decide +kernel⟩

def reinitializing (r : Reinit) : State := { up with seq := { up.seq with reinit := r } }

theorem test_hyps_reinitialize : Serves .body up ∧ MayCommand .body up ∧ up.store.op = none ∧
    (reinitializing (.replying .body)).seq.reinit = .replying .body ∧ (reinitializing .due).seq.reinit = .due :=
  ⟨serves_up _, mayCommand_body, by decide +kernel⟩

/-- Two words of one claim with the seeds on either side of each other. -/
theorem test_hyps_resolution : word.claim ≠ .decline ∧ (⟨0, .decline, 0, false⟩ : MasterWord).claim = .decline ∧
    accessoryWord.claim = .auto ∧ accessoryWord.claim ≠ .claim ∧ (6 < 7 ∧ 7 < 8) ∧
    resolution (upWord (up.link .body)) (upWord (up.link .accessory)) = .holder (some .body) ∧
    resolution (some bodyWord) (some word) = .conflict ∧
    resolution (some accessoryWord) (some accessoryWord) = .equalSeeds := by decide +kernel

/-! Requests. -/

def fourReplies : State :=
  { up with links := { up.links with body := { up.links.body with replies := List.replicate 4 report } } }

theorem test_hyps_requestsNotTaken : requestOf (.identify .body 5 []) = some (.body, 5) ∧
    (Instr.identify .body 5 []).wellFormed = true ∧ silent.isHeld = false ∧ (silent.link .body).state ≠ .up ∧
    (inPhase (.scan false 0)).started = false ∧ (reinitializing .due).seq.reinit ≠ .idle ∧
    replyListFull .body fourReplies = true ∧ fourReplies.seq.reinit = .idle := by decide +kernel

theorem test_hyps_readRequests : Serves .accessory up ∧ ((63 : Byte).toNat ≤ min 63 (255 : Byte).toNat) ∧
    (3 : Byte).toNat ≤ 3 ∧ readsOnly (.readMarks .body 0 []) = true ∧
    ∃ u, exec (.readMarks .body 0 []) up = .next u :=
  ⟨serves_up _, by decide, by decide, rfl, _, rfl⟩

theorem test_hyps_replyLayouts : StoreLaw running := storeLaw_running

theorem test_hyps_readMarks : Serves .accessory running := ⟨rfl, rfl, rfl, rfl⟩

theorem test_hyps_eventWords : Serves .body up ∧
    up.events = some ⟨⟨0x0040, 0xFFFF, true⟩, ⟨0x0040, 0xFFFF, true⟩⟩ := ⟨serves_up _, rfl⟩

theorem test_hyps_eventsLatch : up.events = some ⟨⟨0x0040, 0xFFFF, true⟩, ⟨0x0040, 0xFFFF, true⟩⟩ ∧
    (Event.axisLost = .axisLost ∧ Event.selfTestFail = .selfTestFail) := ⟨rfl, rfl, rfl⟩

theorem test_hyps_frameFormat : Serves .body up ∧ (List.replicate 22 0#8).length = 22 ∧
    (List.replicate 8 0#8).length = 8 := ⟨serves_up _, rfl, rfl⟩

theorem test_hyps_modeSets : Serves .body up ∧ MayCommand .body up ∧ up.engine.state ≠ .pattern ∧
    byteAt [0, 0, 0, 0, 0, 0, 0, 0, 1] 8 ≤ 1 ∧ byteAt [1, 0, 0, 0, 1] 4 ≤ 1 ∧ byteAt [2, 0, 0, 0] 0 = 2 ∧
    (byteAt [3, 1, 1, 0, 0] 1 ≤ 1 ∧ byteAt [3, 1, 1, 0, 0] 2 ≤ 1) ∧
    running.engine.ms1.staged = some ⟨⟨60, 0, false⟩, 0⟩ :=
  ⟨serves_up _, mayCommand_body, by decide +kernel⟩

def conflicting : State := { up with auth := { up.auth with holder := none, conflict := true } }

def inPattern : State := { up with engine := { up.engine with state := .pattern } }

theorem test_hyps_anchor : Serves .body up ∧ MayCommand .body up ∧ up.engine.state ≠ .pattern ∧
    Serves .body inPattern ∧ MayCommand .body inPattern ∧ inPattern.engine.state = .pattern ∧
    Serves .accessory conflicting ∧ conflicting.auth.conflict = true ∧
    up.auth.holder = some (otherLink .accessory) :=
  ⟨serves_up _, mayCommand_body, by decide, ⟨rfl, rfl, rfl, rfl⟩, ⟨rfl, fun h g => by cases g; rfl⟩, rfl,
    ⟨rfl, rfl, rfl, rfl⟩, rfl, rfl⟩

def noPrediction : State := { running with engine := { running.engine with lastPrediction := none } }

theorem test_hyps_anchorHere : Serves .body running ∧ MayCommand .body running ∧ running.engine.state ≠ .pattern ∧
    running.store.sector0Valid = true ∧ running.engine.lastPrediction = some ⟨5590, 1705, 700, 20⟩ ∧
    noPrediction.engine.lastPrediction = none ∧
    noPrediction.front.axes.focus.latest = some ⟨102000, 5320, some 1840⟩ ∧ up.store.sector0Valid = false :=
  ⟨⟨rfl, rfl, rfl, rfl⟩, ⟨rfl, fun h g => by cases g; rfl⟩, by decide, rfl, rfl, rfl, rfl, rfl⟩

/-- Each form of a mark's power and label, an endpoint of a locked path and another id, at the ends of the ids. -/
theorem test_hyps_marks : Serves .body running ∧ MayCommand .body running ∧ MarksLaw running ∧
    running.engine.state ≠ .pattern ∧ running.cache.walk.ends = some (1, 4) ∧ running.cache.walk.state = .done ∧
    (byteAt [7, 0, 0, 255] 3 = 255 ∧ [7#8, 0, 0, 255].length = 4) ∧
    (byteAt [0, 0, 0, 1, 65] 3 ≤ 8 ∧ [0#8, 0, 0, 1, 65].length = 4 + 1) ∧
    field16 [1, 0xFE, 0xFF, 255] 1 = 65534 ∧ field16 [1, 0xFF, 0xFF, 255] 1 = 65535 ∧
    (herePower running).map Prod.fst = some 1705 ∧ up.store.sector0Valid = false ∧
    findMark 1 running.auth.marks = some markA ∧ findMark 7 running.auth.marks = none ∧ 7 < (8 : Byte).toNat :=
  ⟨⟨rfl, rfl, rfl, rfl⟩, ⟨rfl, fun h g => by cases g; rfl⟩, marksLaw_running, by decide +kernel⟩

theorem test_hyps_lockPath : Serves .body running ∧ MayCommand .body running ∧ running.engine.state ≠ .pattern ∧
    running.store.sector0Valid = true ∧ running.cache.disabled = false ∧
    findMark 1 running.auth.marks = some markA ∧ findMark 4 running.auth.marks = some markB ∧
    latestFocal running = some 700 ∧ latestIris running = some 20 :=
  ⟨⟨rfl, rfl, rfl, rfl⟩, ⟨rfl, fun h g => by cases g; rfl⟩, by decide +kernel⟩

/-- `running` with a walk in progress. -/
def walkingOver (rest : List Key) (set9 : List Way) : State :=
  { running with
    cache := { running.cache with
      sets := running.cache.sets.set 9 set9, walk := ⟨.walking, some (1, 4), rest, 4, 1, 0⟩ } }

/-- The end of a plan, a set of three locks, a cached cell and one that is not. -/
theorem test_hyps_walk : (walkingOver [] []).cache.walk.rest = [] ∧
    setIndex ⟨.breathing, 4, 1, 0⟩ = 9 ∧
    lockedCount (setOf ⟨.breathing, 4, 1, 0⟩ (walkingOver [] [lockedWay, lockedWay, lockedWay]).cache.sets) = 3 ∧
    lockedCount (setOf ⟨.breathing, 4, 1, 0⟩ (walkingOver [] [lockedWay]).cache.sets) < 3 ∧
    isCached ⟨.breathing, 4, 1, 0⟩ (walkingOver [] [lockedWay]).cache = true ∧
    isCached ⟨.breathing, 4, 1, 0⟩ (walkingOver [] []).cache = false ∧
    (walkAdvance (walkingOver [⟨.breathing, 4, 1, 0⟩] [lockedWay])).cache.walk = ⟨.done, some (1, 4), [], 4, 2, 0⟩ := by
  decide +kernel

theorem test_hyps_unlock : Serves .body running ∧ MayCommand .body running ∧ running.engine.state ≠ .pattern ∧
    running.cache.walk.state = .done ∧ up.cache.walk.state = .idle ∧ Serves .body inPattern ∧
    inPattern.engine.state = .pattern ∧ Serves .body conflicting ∧ Serves .accessory up ∧
    up.auth.holder = some (otherLink .accessory) :=
  ⟨⟨rfl, rfl, rfl, rfl⟩, ⟨rfl, fun h g => by cases g; rfl⟩, by decide, rfl, rfl, ⟨rfl, rfl, rfl, rfl⟩, rfl,
    ⟨rfl, rfl, rfl, rfl⟩, serves_up _, rfl⟩

theorem test_hyps_storeOps : Serves .accessory up ∧ up.engine.state.runs = false ∧ up.store.op = none ∧
    up.store.readStoreWaiting.length ≤ 1 ∧ (6 : Byte).toNat ≤ 6 ∧
    ((0 : Byte).toNat = 0 ∧ up.seq.straps.service = true) :=
  ⟨serves_up _, by decide +kernel⟩

/-- The last 128 bytes of the buffer, and the last byte of a protected store's sector 0. -/
theorem test_hyps_pageBuffer : Serves .accessory up ∧ StoreLaw up ∧ up.store.op = none ∧
    up.engine.state.runs = false ∧ (128 : Byte).toNat + (List.replicate 128 0#8).length ≤ 256 ∧
    readStoreOutstanding up = false ∧
    (0xFF : Byte).toNat + 256 * (0xFF : Byte).toNat + (1 : Byte).toNat ≤ 65536 ∧
    ((0 : Byte).toNat = 0 ∨ up.store.readProtection = false) :=
  ⟨serves_up _, by unfold StoreLaw; decide +kernel, by decide +kernel⟩

theorem test_hyps_heldBack : Serves .accessory reading ∧ readStoreOutstanding reading = true :=
  ⟨⟨rfl, rfl, rfl, by decide +kernel⟩, rfl⟩

theorem test_hyps_refusals : Serves .body up ∧ Serves .accessory up ∧ kindUnknown 0x18 = true ∧
    conflicting.auth.conflict = true ∧ up.auth.holder = some (otherLink .accessory) ∧
    MayCommand .body inPattern ∧ inPattern.engine.state = .pattern ∧ running.engine.state = .running ∧
    (up.engine.state.runs = false ∧ (working .eraseSector (some 3) none).store.op.isSome = true) ∧
    (7 < byteAt [8] 0 ∧ byteAt [7] 0 = 7) ∧ 3 < byteAt [4] 0 :=
  ⟨serves_up _, serves_up _, by decide, rfl, rfl, ⟨rfl, fun h g => by cases g; rfl⟩, by decide +kernel⟩

end Sys2Proof.Tests
end

section
/-! PROOF. The encoder front end: how an answer is judged (R4), reversed by the strap (R5) and filed (R6). -/

namespace Sys2Proof.Machine

/-! ### One axis of the front end -/

@[simp] theorem axes_setAxis (a : Axis) (u : AxisUnit) (f : FrontEnd) : (f.setAxis a u).axes = f.axes.set a u := rfl

@[simp] theorem axis_set_set_same {α : Type} (p : PerAxis α) (a : Axis) (x y : α) :
    (p.set a x).set a y = p.set a y := by
  cases a <;> rfl

@[simp] theorem timing_advanceTo (t : Instant) (s : State) :
    (advanceTo t s).timing = { s.timing with timebase := laterOf t s.now } := rfl

/-- The table of R8 moves the state and the runs; the ring and the line are not its business. -/
@[simp] theorem axisStep_frame (valid : Bool) (u : AxisUnit) :
    (axisStep valid u).ring = u.ring ∧ (axisStep valid u).reading = u.reading := by
  unfold axisStep
  split
  case h_5 | h_8 | h_9 => split <;> exact ⟨rfl, rfl⟩
  all_goals exact ⟨rfl, rfl⟩

/-- Noting a conversion rewrites OUTSIDE_MAP of its axis and nothing else of the axes. -/
theorem axes_noteConversion (a : Axis) (outside : Bool) (s : State) :
    (noteConversion a outside s).front.axes =
      s.front.axes.set a { s.front.axes.get a with outsideMap := outside } := by
  simp [noteConversion]

/-- A completed read ends, files its sample (R6) and leaves the other axes alone. -/
theorem axes_applySample (a : Axis) (x : Sample) (s : State) :
    ∃ u, (applySample a x s).front.axes = s.front.axes.set a u ∧
      u.ring = fileSample x (s.front.axes.get a).ring ∧ u.reading = none := by
  simp only [applySample]
  split
  case isTrue =>
    split
    case h_1 => exact ⟨_, rfl, by simp⟩
    case h_2 => exact ⟨_, (axes_noteConversion _ _ _).trans (axis_set_set_same _ _ _ _), by simp⟩
  case isFalse => exact ⟨_, rfl, by simp⟩

/-- ENCODER_READ_COMPLETE for a read in progress. -/
theorem exec_encoderReadComplete {a : Axis} {i : Instant} {s : State} (h : (s.front.axes.get a).reading = some i)
    (bits : BitVec 16) : exec (.encoderReadComplete a bits) s =
      .next (settle (applySample a (sampleOf (senseHigh s.seq.straps a) i bits) (advanceTo (addInterval i 20) s))) := by
  simp [exec, execEncoderReadComplete, h, answer]

/-! ### The answer of an encoder -/

theorem setBits_eq_countP (x n : Nat) : setBits x n = (List.range n).countP x.testBit := by
  induction n with
  | zero => rfl
  | succ n ih => rw [setBits, ih, List.range_succ, List.countP_append, List.countP_singleton]

theorem answerCount_toNat (bits : BitVec 16) : (answerCount bits).toNat = bits.toNat / 4 := by
  simp only [answerCount, BitVec.extractLsb'_toNat, Nat.shiftRight_eq_div_pow]
  omega

/-- Bit `n` of the count is bit `n + 2` of the answer. -/
theorem testBit_answerCount (bits : BitVec 16) (n : Nat) :
    (answerCount bits).toNat.testBit n = bits.getLsbD (n + 2) := by
  rw [answerCount_toNat, BitVec.getLsbD, show 4 = 2 ^ 2 from rfl, Nat.testBit_div_two_pow]

/-- The bits that R4 counts, the answer's without its error bit, are those of the count and the parity bit. -/
theorem countP_judgedBits (bits : BitVec 16) : ((List.range 16).countP fun n => n != 1 && bits.getLsbD n) =
    setBits (answerCount bits).toNat 14 + (if bits.getLsbD 0 then 1 else 0) := by
  have shifted : List.range 16 = 0 :: 1 :: (List.range 14).map (· + 2) := rfl
  have countBits : (List.range 14).countP ((fun n => n != 1 && bits.getLsbD n) ∘ (· + 2)) =
      setBits (answerCount bits).toNat 14 := by
    rw [setBits_eq_countP]
    exact List.countP_congr fun n _ => by simp [testBit_answerCount]
  rw [shifted, List.countP_cons, List.countP_cons, List.countP_map, countBits]
  simp

/-- R4 in terms of the answer's own bits. -/
theorem answerValid_iff (bits : BitVec 16) : answerValid bits = true ↔
    bits.getLsbD 1 = false ∧ ((List.range 16).countP fun n => n != 1 && bits.getLsbD n) % 2 = 0 := by
  simp only [countP_judgedBits, answerValid, Bool.and_eq_true, Bool.not_eq_true', decide_eq_true_eq]

/-- A silent encoder answers all ones, which sets the error bit. -/
theorem answerValid_allOnes : answerValid 0xFFFF = false := by decide

theorem senseCount_toNat (high : Bool) (c : Count) :
    (senseCount high c).toNat = if high then 16383 - c.toNat else c.toNat := by
  cases high with
  | false => rfl
  | true =>
    simp only [senseCount, if_true, BitVec.toNat_ofNat]
    omega

@[simp] theorem sampleOf_instant (high : Bool) (i : Instant) (bits : BitVec 16) :
    (sampleOf high i bits).instant = i := by
  unfold sampleOf
  split <;> rfl

@[simp] theorem sampleOf_valid (high : Bool) (i : Instant) (bits : BitVec 16) :
    (sampleOf high i bits).valid = answerValid bits := by
  unfold sampleOf
  split <;> simp_all

theorem sampleOf_count_of_valid {bits : BitVec 16} (h : answerValid bits = true) (high : Bool) (i : Instant) :
    (sampleOf high i bits).count.toNat = if high then 16383 - bits.toNat / 4 else bits.toNat / 4 := by
  rw [sampleOf, if_pos h, senseCount_toNat, answerCount_toNat]

theorem sampleOf_count_of_invalid {bits : BitVec 16} (h : answerValid bits = false) (high : Bool) (i : Instant) :
    (sampleOf high i bits).count = 0 := by
  simp [sampleOf, h]

/-- Settles O23: the sample filed is `sampleOf` of the answer, judged by `answerValid_iff`. -/
theorem encoderAnswerIsJudgedAndFiled : Obligations.EncoderAnswerIsJudgedAndFiled := by
  intro a bits i s reading
  obtain ⟨u, axes, ring, line⟩ := axes_applySample a (sampleOf (senseHigh s.seq.straps a) i bits)
    (advanceTo (addInterval i 20) s)
  refine ⟨_, sampleOf (senseHigh s.seq.straps a) i bits, exec_encoderReadComplete reading bits, ?time, ?line, ?ring,
    sampleOf_instant _ _ _, ?valid, fun valid => ?count, fun invalid => ?noCount, ?silent, fun b other => ?others,
    ?frame⟩
  case time => simp [State.now]
  case line => simpa [axes] using line
  case ring => simpa [axes, fileSample] using ring
  case valid => rw [sampleOf_valid, answerValid_iff]
  case count => exact sampleOf_count_of_valid (sampleOf_valid _ _ _ ▸ valid) _ _
  case noCount => exact sampleOf_count_of_invalid (sampleOf_valid _ _ _ ▸ invalid) _ _
  case silent => rintro rfl; rw [sampleOf_valid, answerValid_allOnes]
  case others => simpa [axes] using axis_get_set_of_ne s.front.axes u other
  case frame => simp

end Sys2Proof.Machine
end

section
/-! PROOF. The focus distance (R14) and the three places that carry it. -/

namespace Sys2Proof.Machine

/-! ### Fields of a payload -/

@[simp] theorem length_le8 (n : Nat) : (le8 n).length = 1 := rfl
@[simp] theorem length_le16 (n : Nat) : (le16 n).length = 2 := rfl
@[simp] theorem length_le32 (n : Nat) : (le32 n).length = 4 := rfl
@[simp] theorem length_axisBlock (s : State) (a : Axis) : (axisBlock s a).length = 10 := rfl

/-- A field of a payload, read at the length of what stands before it. -/
theorem take_drop_field {before field rest : List Byte} {n k : Nat} (hn : before.length = n) (hk : field.length = k) :
    ((before ++ field ++ rest).drop n).take k = field := by
  subst hn hk
  simp [List.append_assoc]

/-! ### The reciprocal -/

theorem focusDistance_of_lt {p : Nat} (h : p < 16) : focusDistance p = 65535 := if_pos h

/-- R1's rounding of 1 000 000 / P, without signs. -/
theorem focusDistance_of_le {p : Nat} (h : 16 ≤ p) : focusDistance p = (2 * 1000000 + p) / (2 * p) := by
  have positive : (1000000 : Int).sign = 1 := rfl
  rw [focusDistance, if_neg (by omega), roundDiv, positive, one_mul, Int.toNat_natCast]
  rfl

/-- The distances of the powers 16 mD to 20 000 mD. -/
theorem focusDistance_bounds {p : Nat} (least : 16 ≤ p) (most : p ≤ 20000) :
    50 ≤ focusDistance p ∧ focusDistance p ≤ 62500 := by
  have positive : 0 < 2 * p := by omega
  rw [focusDistance_of_le least]
  constructor
  · rw [Nat.le_div_iff_mul_le positive]; omega
  · rw [← Nat.lt_succ_iff, Nat.div_lt_iff_lt_mul positive]; omega

/-! ### The places of R14 -/

theorem positionFields_distance {s : State} {p : Nat} (h : unitsValue s .focus = some p) :
    (positionFields s).drop 34 = le16 (focusDistance p) := by
  rw [positionFields, h]
  exact List.drop_left' (by simp)

theorem reportPayload_distance (s : State) (n : Option Nat) (c p : Nat) (f i : Option Nat) :
    ((reportPayload s n c (some p) f i).drop 4).take 4 = le16 p ++ le16 (focusDistance p) := by
  obtain ⟨flags, rest, layout⟩ : ∃ flags rest, reportPayload s n c (some p) f i =
      (le8 flags ++ le8 s.engine.state.code ++ le16 c) ++ (le16 p ++ le16 (focusDistance p)) ++ rest :=
    ⟨_, _, by simp only [reportPayload, unitsField, distanceField, Option.getD_some, List.append_assoc]; rfl⟩
  rw [layout]
  exact take_drop_field (by simp) (by simp)

theorem recordPayload_distance (e : Entry) (d : Delivered) :
    ((recordPayload e d).drop 7).take 4 = le16 d.position.power ++ le16 (focusDistance d.position.power) := by
  obtain ⟨rest, layout⟩ : ∃ rest, recordPayload e d =
      (le16 e.frameNumber.toNat ++ le8 e.skipped ++ le32 e.target.toNat) ++
        (le16 d.position.power ++ le16 (focusDistance d.position.power)) ++ rest :=
    ⟨_, by simp only [recordPayload, List.append_assoc]; rfl⟩
  rw [layout]
  exact take_drop_field (by simp) (by simp)

/-- Settles O26, from R1's rounding and the offset of the field in each payload. -/
theorem focusDistanceIsReciprocal : Obligations.FocusDistanceIsReciprocal :=
  ⟨fun _ => focusDistance_of_lt, fun _ => focusDistance_of_le, fun _ => focusDistance_bounds,
    fun _ _ => positionFields_distance, reportPayload_distance, recordPayload_distance⟩

end Sys2Proof.Machine
end

section
/-! PROOF. UNLOCK (R98): what unlocking leaves of a set, the walk record, and the request with its refusals. -/

namespace Sys2Proof.Machine

/-! ### An unlocked way -/

@[simp] theorem rank_unlocked (w : Way) : w.unlocked.rank = w.rank := rfl

@[simp] theorem isLocked_unlocked (w : Way) : w.unlocked.isLocked = false := by
  obtain ⟨content, rank⟩ := w
  cases content <;> rfl

@[simp] theorem holds_unlocked (k : Key) (w : Way) : w.unlocked.holds k = w.holds k := by
  obtain ⟨content, rank⟩ := w
  cases content <;> rfl

@[simp] theorem cell_unlocked (w : Way) :
    w.unlocked.content.map WayContent.cell = w.content.map WayContent.cell := by
  obtain ⟨content, rank⟩ := w
  cases content <;> rfl

/-! ### The cache with every entry unlocked -/

theorem lockedCount_map_unlocked (ways : List Way) : lockedCount (ways.map Way.unlocked) = 0 := by
  simp [lockedCount, List.countP_eq_zero]

theorem lockedCount_unlockAll {c : Cache} {ways : List Way} (h : ways ∈ (unlockAll c).sets) :
    lockedCount ways = 0 := by
  obtain ⟨old, -, rfl⟩ := List.mem_map.1 h
  exact lockedCount_map_unlocked old

theorem setOf_unlockAll (k : Key) (c : Cache) : setOf k (unlockAll c).sets = (setOf k c.sets).map Way.unlocked :=
  List.getD_map c.sets [] (List.map Way.unlocked)

/-- A key's validity does not depend on the locked marks. -/
theorem isCached_unlockAll (k : Key) (c : Cache) : isCached k (unlockAll c) = isCached k c := by
  have sameKey : Way.holds k ∘ Way.unlocked = Way.holds k := funext (holds_unlocked k)
  rw [isCached, setOf_unlockAll, List.any_map, sameKey, isCached]

/-- Nor does the payload a key's entry holds. -/
theorem cachedCell_unlockAll (k : Key) (c : Cache) : cachedCell k (unlockAll c) = cachedCell k c := by
  have sameKey : Way.holds k ∘ Way.unlocked = Way.holds k := funext (holds_unlocked k)
  rw [cachedCell, setOf_unlockAll, List.find?_map, sameKey, Option.bind_map, cachedCell]
  exact congrArg _ (funext cell_unlocked)

theorem ranks_unlockAll (c : Cache) :
    (unlockAll c).sets.map (fun ways => ways.map Way.rank) = c.sets.map (fun ways => ways.map Way.rank) := by
  simp [unlockAll, Function.comp_def]

/-! ### The walk record -/

theorem unlockWalk_of_walking {w : Walk} (h : w.state = .walking) :
    unlockWalk w = { w with state := .abandoned, rest := [] } := by
  simp [unlockWalk, abandonWalking, h]

theorem unlockWalk_of_ended {w : Walk} (h : w.state = .done ∨ w.state = .abandoned) :
    unlockWalk w = .idleRecord := by
  rcases h with h | h <;> simp [unlockWalk, h]

theorem unlockWalk_of_idle {w : Walk} (h : w.state = .idle) : unlockWalk w = w := by
  simp [unlockWalk, h]

/-! ### What a reply reads of the state -/

/-- The transmitter sees the links, the sequencer, the time and the record level of the tables, and nothing else. -/
theorem links_startTransmit_congr {s u : State} (links : u.links = s.links) (seq : u.seq = s.seq)
    (now : u.now = s.now) (level : maxRecordLevel u = maxRecordLevel s) (l : Link) :
    (startTransmit l u).links = (startTransmit l s).links := by
  have link : u.link l = s.link l := congrArg (PerLink.get · l) links
  have ability : abilityPayload l u = abilityPayload l s := by simp only [abilityPayload, link, level]
  simp only [startTransmit, link, seq, now, ability]
  by_cases busy : ((s.link l).sending.isSome || (s.link l).renegotiateDue || decide (s.seq.reinit = .due)) = true
  · rw [if_pos busy, if_pos busy, links]
  · rw [if_neg busy, if_neg busy]
    cases (s.link l).records with
    | cons f fs => simp [State.setLink, links]
    | nil =>
      cases (s.link l).replies with
      | cons f fs => simp [State.setLink, links]
      | nil => cases (s.link l).abilityWaiting <;> simp [State.setLink, links]

theorem links_joinReply_congr {s u : State} (links : u.links = s.links) (seq : u.seq = s.seq)
    (now : u.now = s.now) (level : maxRecordLevel u = maxRecordLevel s) (l : Link) (k : Byte) (p : List Byte) :
    (joinReply l k p u).links = (joinReply l k p s).links := by
  refine links_startTransmit_congr (u := u.setLink l _) (s := s.setLink l _) ?_ seq now level l
  simp [State.setLink, State.link, links]

/-- What UNLOCK changes, the cache and the read port, is nothing the transmitter sees. -/
theorem links_unlockPath (l : Link) (s : State) : (unlockPath l s).links = (joinReply l 0x39 [0] s).links := by
  unfold unlockPath replyOk
  apply links_joinReply_congr <;> rfl

theorem cache_unlockPath (l : Link) (s : State) :
    (unlockPath l s).cache = { unlockAll s.cache with walk := unlockWalk s.cache.walk } := by
  simp [unlockPath]

theorem unlockPath_frame (l : Link) (s : State) :
    (unlockPath l s).engine = s.engine ∧ (unlockPath l s).auth = s.auth ∧ (unlockPath l s).front = s.front ∧
      (unlockPath l s).seq = s.seq := by
  simp [unlockPath]

/-! ### The request -/

/-- The ranks of an authority request of the right length: authority, PATTERN, then its own parameters (R175). -/
theorem refusalOf_authorityChecks (l : Link) (s : State) (parameter : Option Code) :
    refusalOf (authorityChecks true s parameter) l s =
      ((authorityRefusal l s).or (patternRefusal s)).or parameter := by
  simp only [refusalOf, authorityChecks, lengthOnly]
  cases authorityRefusal l s <;> cases patternRefusal s <;> rfl

theorem exec_unlock (l : Link) (t : Instant) (p : List Byte) (s : State) :
    exec (.unlock l t p) s = .next (settle (takeUnlock l t p s)) := rfl

/-- UNLOCK is refused by authority first and by PATTERN second. -/
theorem exec_unlock_refused {l : Link} {s : State} {c : Code} (serves : Serves l s)
    (refused : (authorityRefusal l s).or (patternRefusal s) = some c) (t : Instant) :
    exec (.unlock l t []) s = .next (settle (joinReply l 0x39 [c.byte] (received l t s))) := by
  have first : refusalOf (authorityChecks true (received l t s) none) l (received l t s) = some c := by
    rw [refusalOf_authorityChecks, authorityRefusal_received, Option.or_none]
    exact refused
  have joins : refuse l 0x39 c (received l t s) = joinReply l 0x39 [c.byte] (received l t s) :=
    refuse_eq_joinReply (.inl (by decide)) c
  simp only [exec_unlock, takeUnlock, takeRequest_of_serves serves, List.isEmpty_nil, first, joins]

theorem exec_unlock_taken {l : Link} {s : State} (serves : Serves l s) (may : MayCommand l s)
    (outside : s.engine.state ≠ .pattern) (t : Instant) :
    exec (.unlock l t []) s = .next (settle (unlockPath l (received l t s))) := by
  have passes : refusalOf (authorityChecks true (received l t s) none) l (received l t s) = none := by
    rw [refusalOf_authorityChecks, authorityRefusal_received, authorityRefusal_of_mayCommand may]
    simp [patternRefusal, outside]
  simp only [exec_unlock, takeUnlock, takeRequest_of_serves serves, List.isEmpty_nil, passes]

theorem authorityRefusal_of_conflict {l : Link} {s : State} (h : s.auth.conflict = true) :
    authorityRefusal l s = some .conflict := by
  simp [authorityRefusal, h]

theorem authorityRefusal_of_otherHolder {l : Link} {s : State} (peace : s.auth.conflict = false)
    (held : s.auth.holder = some (otherLink l)) : authorityRefusal l s = some .notAuthority := by
  have other : otherLink l ≠ l := by cases l <;> decide
  simp [authorityRefusal, peace, held, other]

/-- Settles O57: a taken UNLOCK is `unlockPath`, whose cache is `unlockAll`'s with `unlockWalk`'s record. -/
theorem unlockReleasesEveryEntry : Obligations.UnlockReleasesEveryEntry := by
  intro l t s serves
  refine ⟨fun may outside => ?taken, fun may pattern => ?pattern, fun conflict => ?conflict,
    fun peace held => ?otherHolder⟩
  case taken =>
    have cache : (settle (unlockPath l (received l t s))).cache =
        { unlockAll s.cache with walk := unlockWalk s.cache.walk } := by simp [cache_unlockPath]
    refine ⟨_, exec_unlock_taken serves may outside t, by simp [links_unlockPath], ?_⟩
    rw [cache]
    refine ⟨fun _ => lockedCount_unlockAll (c := s.cache),
      fun k => ⟨isCached_unlockAll k s.cache, cachedCell_unlockAll k s.cache⟩, ranks_unlockAll s.cache,
      unlockWalk_of_walking, unlockWalk_of_ended, unlockWalk_of_idle, rfl, rfl, ?_⟩
    simp [unlockPath_frame]
  case pattern =>
    exact exec_unlock_refused (c := .patternActive) serves
      (by rw [authorityRefusal_of_mayCommand may]; simp [patternRefusal, pattern]) t
  case conflict =>
    exact exec_unlock_refused (c := .conflict) serves (by rw [authorityRefusal_of_conflict conflict]; rfl) t
  case otherHolder =>
    exact exec_unlock_refused (c := .notAuthority) serves
      (by rw [authorityRefusal_of_otherHolder peace held]; rfl) t

end Sys2Proof.Machine
end

section
/-! PROOF. The anchor (R168, R169): the ladder of an authority request, and what SET ANCHOR and ANCHOR HERE do. -/

namespace Sys2Proof.Machine

/-! ### A request that is taken -/

theorem takeRequest_refused {l : Link} {t : Instant} {s : State} {kind : Byte} {checks : State → Checks} {c : Code}
    (serves : Serves l s) (plain : kind ≠ 0x44)
    (refused : refusalOf (checks (received l t s)) l (received l t s) = some c) (act : State → State) :
    takeRequest l t kind checks act s = joinReply l kind [c.byte] (received l t s) := by
  rw [takeRequest_of_serves serves, refused]
  exact refuse_eq_joinReply (.inl plain) c

theorem takeRequest_carriedOut {l : Link} {t : Instant} {s : State} {checks : State → Checks}
    (serves : Serves l s) (passes : refusalOf (checks (received l t s)) l (received l t s) = none) (kind : Byte)
    (act : State → State) : takeRequest l t kind checks act s = act (received l t s) := by
  rw [takeRequest_of_serves serves, passes]

/-! ### An authority request of the right length -/

theorem patternRefusal_of_pattern {s : State} (h : s.engine.state = .pattern) :
    patternRefusal s = some .patternActive := if_pos h

theorem patternRefusal_of_outside {s : State} (h : s.engine.state ≠ .pattern) : patternRefusal s = none := if_neg h

/-- Authority refuses first, PATTERN second, the request's own parameters last (R175). -/
theorem takeRequest_authority_refused {l : Link} {t : Instant} {s : State} {kind : Byte}
    {parameter : State → Option Code} {c : Code} (serves : Serves l s) (plain : kind ≠ 0x44)
    (refused : ((authorityRefusal l s).or (patternRefusal s)).or (parameter (received l t s)) = some c)
    (act : State → State) :
    takeRequest l t kind (fun u => authorityChecks true u (parameter u)) act s =
      joinReply l kind [c.byte] (received l t s) :=
  takeRequest_refused serves plain ((refusalOf_authorityChecks l _ _).trans refused) act

theorem takeRequest_authority_carriedOut {l : Link} {t : Instant} {s : State} {parameter : State → Option Code}
    (serves : Serves l s) (may : MayCommand l s) (outside : s.engine.state ≠ .pattern)
    (passes : parameter (received l t s) = none) (kind : Byte) (act : State → State) :
    takeRequest l t kind (fun u => authorityChecks true u (parameter u)) act s = act (received l t s) := by
  refine takeRequest_carriedOut serves ?_ kind act
  rw [refusalOf_authorityChecks, authorityRefusal_received, authorityRefusal_of_mayCommand may,
    patternRefusal_of_outside (s := received l t s) outside, passes]
  rfl

/-! ### SET ANCHOR -/

theorem clampNat_zero (hi x : Nat) : clampNat 0 hi x = min hi x := by
  simp only [clampNat, Nat.not_lt_zero, if_false]
  split <;> omega

theorem setAnchor_eq (l : Link) (x y : Byte) (s : State) :
    setAnchor l (field16 [x, y] 0) s = joinReply l 0x30 (0 :: le16 (min 20000 (x.toNat + 256 * y.toNat)))
      { s with auth := { s.auth with anchor := min 20000 (x.toNat + 256 * y.toNat) } } := by
  rw [← clampNat_zero]
  rfl

theorem exec_setAnchor (l : Link) (t : Instant) (x y : Byte) (s : State) :
    exec (.setAnchor l t [x, y]) s = .next (settle (takeRequest l t 0x30 (fun u => authorityChecks true u none)
      (setAnchor l (field16 [x, y] 0)) s)) := rfl

theorem exec_setAnchor_taken {l : Link} {s : State} (serves : Serves l s) (may : MayCommand l s)
    (outside : s.engine.state ≠ .pattern) (t : Instant) (x y : Byte) :
    exec (.setAnchor l t [x, y]) s = .next (settle (joinReply l 0x30
      (0 :: le16 (min 20000 (x.toNat + 256 * y.toNat)))
      { received l t s with auth := { s.auth with anchor := min 20000 (x.toNat + 256 * y.toNat) } })) := by
  rw [exec_setAnchor, takeRequest_authority_carriedOut (parameter := fun _ => none) serves may outside rfl,
    setAnchor_eq, auth_received]

theorem exec_setAnchor_refused {l : Link} {s : State} {c : Code} (serves : Serves l s)
    (refused : (authorityRefusal l s).or (patternRefusal s) = some c) (t : Instant) (x y : Byte) :
    exec (.setAnchor l t [x, y]) s = .next (settle (joinReply l 0x30 [c.byte] (received l t s))) := by
  rw [exec_setAnchor, takeRequest_authority_refused (parameter := fun _ => none) serves (by decide)
    ((Option.or_none).trans refused)]

/-! ### ANCHOR HERE -/

theorem herePower_of_prediction {s : State} {q : Position} (h : s.engine.lastPrediction = some q) :
    herePower s = some (q.power, 0) := by
  simp [herePower, h]

theorem herePower_of_sample {s : State} {r : LatestSample} {v : Nat} (unpredicted : s.engine.lastPrediction = none)
    (latest : s.front.axes.focus.latest = some r) (value : r.value = some v) : herePower s = some (v, 1) := by
  simp [herePower, unpredicted, latest, value]

theorem herePower_of_neither {s : State} (unpredicted : s.engine.lastPrediction = none)
    (unsampled : ∀ r v, s.front.axes.focus.latest = some r → r.value ≠ some v) : herePower s = none := by
  simp only [herePower, unpredicted, Option.map_eq_none_iff, Option.bind_eq_none_iff]
  exact fun r latest => Option.eq_none_iff_forall_ne_some.2 fun v => unsampled r v latest

theorem hereRefusal_of_herePower {s : State} {x : Nat × Nat} (valid : s.store.sector0Valid = true)
    (here : herePower s = some x) : hereRefusal s = none := by
  simp [hereRefusal, valid, here]

theorem hereRefusal_of_missing {s : State} (h : s.store.sector0Valid = false ∨ herePower s = none) :
    hereRefusal s = some .notConfigured := by
  rcases h with h | h <;> simp [hereRefusal, h]

theorem exec_anchorHere (l : Link) (t : Instant) (s : State) :
    exec (.anchorHere l t []) s = .next (settle (takeRequest l t 0x31
      (fun u => authorityChecks true u (hereRefusal u)) (anchorHere l) s)) := rfl

theorem exec_anchorHere_taken {l : Link} {s : State} {power source : Nat} (serves : Serves l s)
    (may : MayCommand l s) (outside : s.engine.state ≠ .pattern) (valid : s.store.sector0Valid = true)
    (here : herePower s = some (power, source)) (t : Instant) :
    exec (.anchorHere l t []) s = .next (settle (joinReply l 0x31 (0 :: (le16 power ++ le8 source))
      { received l t s with auth := { s.auth with anchor := power } })) := by
  have here' : herePower (received l t s) = some (power, source) := here
  rw [exec_anchorHere, takeRequest_authority_carriedOut serves may outside (hereRefusal_of_herePower valid here'),
    anchorHere, here']
  rfl

theorem exec_anchorHere_notConfigured {l : Link} {s : State} (serves : Serves l s) (may : MayCommand l s)
    (outside : s.engine.state ≠ .pattern) (missing : s.store.sector0Valid = false ∨ herePower s = none)
    (t : Instant) :
    exec (.anchorHere l t []) s = .next (settle (joinReply l 0x31 [0x1B] (received l t s))) := by
  have refused : ((authorityRefusal l s).or (patternRefusal s)).or (hereRefusal (received l t s)) =
      some .notConfigured := by
    rw [authorityRefusal_of_mayCommand may, patternRefusal_of_outside outside,
      hereRefusal_of_missing (s := received l t s) missing]
    rfl
  rw [exec_anchorHere, takeRequest_authority_refused serves (by decide) refused]
  rfl

/-- Settles O54: both requests climb the ladder of an authority request, and the here power is the prediction's, the
sample's or missing. -/
theorem anchorIsSet : Obligations.AnchorIsSet := by
  refine ⟨fun l t x y s serves => ⟨fun may outside => ?taken, fun may pattern => ?pattern, fun conflict => ?conflict,
    fun peace held => ?otherHolder⟩, fun l t s serves may outside => ⟨fun q valid predicted => ?prediction,
    fun r v valid unpredicted latest value => ?sample, fun missing => ?notConfigured⟩⟩
  case taken => exact exec_setAnchor_taken serves may outside t x y
  case pattern =>
    exact exec_setAnchor_refused (c := .patternActive) serves
      (by rw [authorityRefusal_of_mayCommand may, patternRefusal_of_pattern pattern]; rfl) t x y
  case conflict =>
    exact exec_setAnchor_refused (c := .conflict) serves (by rw [authorityRefusal_of_conflict conflict]; rfl) t x y
  case otherHolder =>
    exact exec_setAnchor_refused (c := .notAuthority) serves
      (by rw [authorityRefusal_of_otherHolder peace held]; rfl) t x y
  case prediction =>
    exact exec_anchorHere_taken serves may outside valid (herePower_of_prediction predicted) t
  case sample =>
    exact exec_anchorHere_taken serves may outside valid (herePower_of_sample unpredicted latest value) t
  case notConfigured =>
    refine exec_anchorHere_notConfigured serves may outside (missing.imp_right ?_) t
    rintro ⟨unpredicted, unsampled⟩
    exact herePower_of_neither unpredicted unsampled

end Sys2Proof.Machine
end

section
/-! PROOF. READ MARKS (R173): the layout of the marks and the request that no state refuses. -/

namespace Sys2Proof.Machine

/-- A request that only its length can refuse passes the ladder at the right length (R175). -/
theorem refusalOf_lengthOnly (l : Link) (s : State) : refusalOf (lengthOnly true) l s = none := rfl

theorem markFields_eq (m : Mark) : markFields m =
    [BitVec.ofNat 8 m.id, BitVec.ofNat 8 m.power, BitVec.ofNat 8 (m.power / 256), BitVec.ofNat 8 m.label.length] ++
      m.label.take 8 ++ List.replicate (8 - m.label.length) 0#8 := by
  simp only [markFields, padText, List.append_assoc]
  rfl

theorem exec_readMarks (l : Link) (t : Instant) (s : State) :
    exec (.readMarks l t []) s = .next (settle (takeRequest l t 0x34 (fun _ => lengthOnly true)
      (fun u => replyOk l 0x34 (marksFields u.auth.marks) u) s)) := rfl

/-- Settles O49: at its right length the request is carried out, and `markFields_eq` is the layout of a mark. -/
theorem readMarksListsTheMarks : Obligations.ReadMarksListsTheMarks := by
  intro l t s serves
  rw [exec_readMarks, takeRequest_carriedOut serves (refusalOf_lengthOnly l _), auth_received, ← funext markFields_eq]
  rfl

end Sys2Proof.Machine
end

section
/-! PROOF. The resolution of authority (R161 to R164): its table, row by row, and what each outcome leaves. -/

namespace Sys2Proof.Machine

/-! ### The table of R161 -/

theorem resolveAlone_of_claims {w : MasterWord} (h : w.claim ≠ .decline) (l : Link) :
    resolveAlone l w = .holder (some l) := by
  cases c : w.claim with
  | decline => exact absurd c h
  | auto | claim => simp [resolveAlone, c]

theorem resolveAlone_of_declines {w : MasterWord} (h : w.claim = .decline) (l : Link) :
    resolveAlone l w = .holder none := by
  simp [resolveAlone, h]

section
variable {b a : MasterWord}

theorem resolveBoth_of_bothClaim (hb : b.claim = .claim) (ha : a.claim = .claim) : resolveBoth b a = .conflict := by
  simp [resolveBoth, hb, ha]

theorem resolveBoth_of_bodyClaims (hb : b.claim = .claim) (ha : a.claim ≠ .claim) :
    resolveBoth b a = .holder (some .body) := by
  cases c : a.claim with
  | claim => exact absurd c ha
  | auto | decline => simp [resolveBoth, hb, c]

theorem resolveBoth_of_accessoryClaims (hb : b.claim ≠ .claim) (ha : a.claim = .claim) :
    resolveBoth b a = .holder (some .accessory) := by
  cases c : b.claim with
  | claim => exact absurd c hb
  | auto | decline => simp [resolveBoth, ha, c]

theorem resolveBoth_of_accessoryDeclines (hb : b.claim = .auto) (ha : a.claim = .decline) :
    resolveBoth b a = .holder (some .body) := by
  simp [resolveBoth, hb, ha]

theorem resolveBoth_of_bodyDeclines (hb : b.claim = .decline) (ha : a.claim = .auto) :
    resolveBoth b a = .holder (some .accessory) := by
  simp [resolveBoth, hb, ha]

theorem resolveBoth_of_bothDecline (hb : b.claim = .decline) (ha : a.claim = .decline) :
    resolveBoth b a = .holder none := by
  simp [resolveBoth, hb, ha]

/-- Between two AUTO claims the higher seed decides. -/
theorem resolveBoth_of_bothAuto (hb : b.claim = .auto) (ha : a.claim = .auto) :
    resolveBoth b a = if a.seed < b.seed then .holder (some .body)
      else if b.seed < a.seed then .holder (some .accessory) else .equalSeeds := by
  simp [resolveBoth, hb, ha]

theorem resolveBoth_of_bodySeed (hb : b.claim = .auto) (ha : a.claim = .auto) (seeds : a.seed < b.seed) :
    resolveBoth b a = .holder (some .body) := by
  rw [resolveBoth_of_bothAuto hb ha, if_pos seeds]

theorem resolveBoth_of_accessorySeed (hb : b.claim = .auto) (ha : a.claim = .auto) (seeds : b.seed < a.seed) :
    resolveBoth b a = .holder (some .accessory) := by
  rw [resolveBoth_of_bothAuto hb ha, if_neg (by omega), if_pos seeds]

theorem resolveBoth_of_equalSeeds (hb : b.claim = .auto) (ha : a.claim = .auto) (seeds : a.seed = b.seed) :
    resolveBoth b a = .equalSeeds := by
  rw [resolveBoth_of_bothAuto hb ha, if_neg (by omega), if_neg (by omega)]

end

/-! ### A holder set -/

@[simp] theorem auth_setHolder (h : Option Link) (c : Bool) (n : Nat) (s : State) :
    (setHolder h c n s).auth = { s.auth with holder := h, conflict := c, equalSeeds := n } := by
  simp [setHolder]

/-- A holder that is another one raises AUTHORITY_CHANGED, and nothing else is raised (R164). -/
theorem events_setHolder (h : Option Link) (c : Bool) (n : Nat) (s : State) :
    (setHolder h c n s).events = (if s.auth.holder = h then s else raise .authorityChanged s).events := by
  by_cases same : s.auth.holder = h <;> simp [setHolder, events_raiseIf, events_raise, same]

/-! ### The equal-seed restart -/

theorem link_startTransmit_other (l : Link) (s : State) :
    (startTransmit l s).link (otherLink l) = s.link (otherLink l) := by
  simp only [startTransmit]
  repeat' split
  all_goals simp

/-- The transmitter moves no link between states. -/
theorem state_startTransmit (l : Link) (s : State) : ((startTransmit l s).link l).state = (s.link l).state := by
  simp only [startTransmit]
  repeat' split
  all_goals simp

theorem state_enterDetect (l : Link) (n : Nat) (w : Option MasterWord) (s : State) :
    ((enterDetect l n w s).link l).state = .abilityDetect := by
  simp [enterDetect, abilitySend, state_startTransmit]

theorem link_enterDetect_other (l : Link) (n : Nat) (w : Option MasterWord) (s : State) :
    (enterDetect l n w s).link (otherLink l) = s.link (otherLink l) := by
  simp [enterDetect, abilitySend, link_startTransmit_other]

@[simp] theorem auth_equalSeedRestart (n : Nat) (s : State) :
    (equalSeedRestart n s).auth = { s.auth with holder := none, conflict := false, equalSeeds := n } := by
  simp [equalSeedRestart]

theorem state_equalSeedRestart (n : Nat) (s : State) (l : Link) :
    ((equalSeedRestart n s).link l).state = .abilityDetect := by
  cases l with
  | accessory => exact state_enterDetect ..
  | body => exact (congrArg LinkUnit.state (link_enterDetect_other .accessory ..)).trans (state_enterDetect ..)

/-! ### Authority resolved -/

section
variable {s : State}

theorem resolveAuthority_of_holder {h : Option Link}
    (outcome : resolution (upWord (s.link .body)) (upWord (s.link .accessory)) = .holder h) :
    resolveAuthority s = setHolder h false
      (if (upWord (s.link .body)).isSome && (upWord (s.link .accessory)).isSome then 0 else s.auth.equalSeeds) s := by
  simp only [resolveAuthority, outcome]

theorem resolveAuthority_of_conflict
    (outcome : resolution (upWord (s.link .body)) (upWord (s.link .accessory)) = .conflict) :
    resolveAuthority s = setHolder none true s.auth.equalSeeds s := by
  simp only [resolveAuthority, outcome]

theorem resolveAuthority_of_equalSeeds
    (outcome : resolution (upWord (s.link .body)) (upWord (s.link .accessory)) = .equalSeeds) :
    resolveAuthority s = if s.auth.equalSeeds + 1 < 7 then equalSeedRestart (s.auth.equalSeeds + 1) s
      else setHolder none true 7 s := by
  simp only [resolveAuthority, outcome]

end

/-- Settles O45: the rows of `resolution`, and for each outcome the holder set or the restart it leads to. -/
theorem resolutionFollowsTheClaims : Obligations.ResolutionFollowsTheClaims := by
  refine ⟨rfl, fun w claims => ⟨resolveAlone_of_claims claims _, resolveAlone_of_claims claims _⟩,
    fun w declines => ⟨resolveAlone_of_declines declines _, resolveAlone_of_declines declines _⟩,
    fun b a => ⟨resolveBoth_of_bothClaim, resolveBoth_of_bodyClaims, resolveBoth_of_accessoryClaims,
      resolveBoth_of_accessoryDeclines, resolveBoth_of_bodyDeclines, resolveBoth_of_bodySeed,
      resolveBoth_of_accessorySeed, resolveBoth_of_equalSeeds, resolveBoth_of_bothDecline⟩,
    fun s => ⟨fun h outcome => ?holder, fun outcome => ?conflict, fun outcome => ?equalSeeds⟩⟩
  case holder =>
    rw [resolveAuthority_of_holder outcome]
    exact ⟨by simp, by simp, by simp, events_setHolder h false _ s⟩
  case conflict => simp [resolveAuthority_of_conflict outcome]
  case equalSeeds =>
    rw [resolveAuthority_of_equalSeeds outcome]
    by_cases more : s.auth.equalSeeds + 1 < 7
    · rw [if_pos more]
      exact ⟨by simp, fun _ => ⟨by simp, by simp, state_equalSeedRestart _ s⟩, fun _ => by omega⟩
    · rw [if_neg more]
      exact ⟨by simp, fun _ => by omega, fun _ => by simp⟩

end Sys2Proof.Machine
end

section
/-! PROOF. The event requests (R182, R183): the words they read, the words they leave and their replies. -/

namespace Sys2Proof.Machine

/-! ### A word in a payload -/

theorem toNat_append_bytes (x y : Byte) : (y ++ x).toNat = x.toNat + 256 * y.toNat := by
  rw [BitVec.toNat_append, ← Nat.shiftLeft_add_eq_or_of_lt x.isLt, Nat.shiftLeft_eq]
  omega

/-- A two-byte field, read least significant byte first (R185). -/
theorem ofNat_field16 (x y : Byte) : BitVec.ofNat 16 (field16 [x, y] 0) = y ++ x := by
  have field : field16 [x, y] 0 = (y ++ x).toNat := (toNat_append_bytes x y).symm
  rw [field, BitVec.ofNat_toNat, BitVec.setWidth_eq]

/-- A word goes out least significant byte first (R185). -/
theorem le16_append (x y : Byte) : le16 (y ++ x).toNat = [x, y] := by
  have low : BitVec.ofNat 8 (x.toNat + 256 * y.toNat) = x := by
    apply BitVec.eq_of_toNat_eq
    rw [BitVec.toNat_ofNat]
    omega
  have high : BitVec.ofNat 8 ((x.toNat + 256 * y.toNat) / 256) = y := by
    apply BitVec.eq_of_toNat_eq
    rw [BitVec.toNat_ofNat]
    omega
  rw [le16, toNat_append_bytes, low, high]

/-! ### A link's words -/

@[simp] theorem levelWord_received (l : Link) (t : Instant) (s : State) :
    levelWord (received l t s) = levelWord s := rfl

@[simp] theorem levelWord_setEvents (e : Option (PerLink EventUnit)) (s : State) :
    levelWord (s.setEvents e) = levelWord s := rfl

/-- The transmitter does not see the event unit. -/
theorem links_joinReply_setEvents (l : Link) (k : Byte) (p : List Byte) (e : Option (PerLink EventUnit))
    (s : State) : (joinReply l k p (s.setEvents e)).links = (joinReply l k p s).links :=
  links_joinReply_congr (s := s) (u := s.setEvents e) rfl rfl rfl rfl l k p

/-- A reply changes no condition of a level bit. -/
@[simp] theorem levelWord_joinReply (l : Link) (k : Byte) (p : List Byte) (s : State) :
    levelWord (joinReply l k p s) = levelWord s := by
  simp [levelWord, State.axisLost, State.tableMissing, State.selfTestFailed, State.fitted]

section
variable {s : State} {w : PerLink EventUnit}

theorem pendingWord_of_events (h : s.events = some w) (l : Link) : pendingWord s l = (w.get l).pending := by
  simp only [pendingWord, h]

theorem enableWord_of_events (h : s.events = some w) (l : Link) : enableWord s l = (w.get l).enable := by
  simp only [enableWord, h]

theorem changeUnit_of_events (h : s.events = some w) (l : Link) (f : EventUnit → EventUnit) :
    changeUnit l f s = s.setEvents (some (w.set l (f (w.get l)))) := by
  simp only [changeUnit, h, Option.map_some]

/-! ### What the two changes do -/

/-- MODIFY EVENTS replies with the pending word before and after the clear (R183). -/
theorem modifyEvents_of_events (h : s.events = some w) (l : Link) (mask : EventWord) :
    modifyEvents l mask s =
      joinReply l 0x14 (0 :: le16 (w.get l).pending.toNat ++
          le16 (clearedWord (levelWord s) mask (w.get l).pending).toNat)
        (s.setEvents (some (w.set l
          { w.get l with pending := clearedWord (levelWord s) mask (w.get l).pending }))) := by
  simp only [modifyEvents, changeUnit_of_events h, pendingWord_of_events h,
    pendingWord_of_events (events_setEvents _ s), get_set_same]
  rfl

/-- SET EVENT ENABLES replies with the new enable word and the pending word it leaves alone (R182). -/
theorem setEnables_of_events (h : s.events = some w) (l : Link) (word : EventWord) :
    setEnables l word s =
      joinReply l 0x15 (0 :: (le16 word.toNat ++ le16 (w.get l).pending.toNat))
        (s.setEvents (some (w.set l { w.get l with enable := word }))) := by
  simp only [setEnables, changeUnit_of_events h, pendingWord_of_events (events_setEvents _ s),
    enableWord_of_events (events_setEvents _ s), get_set_same]
  rfl

end

/-! ### The requests -/

/-- A request that only its length can refuse is carried out at the right length (R175). -/
theorem takeRequest_lengthOnly {l : Link} {s : State} (serves : Serves l s) (t : Instant) (kind : Byte)
    (act : State → State) : takeRequest l t kind (fun _ => lengthOnly true) act s = act (received l t s) :=
  takeRequest_carriedOut (checks := fun _ => lengthOnly true) serves (refusalOf_lengthOnly l _) kind act

theorem exec_readEvents_taken {l : Link} {s : State} (serves : Serves l s) (t : Instant) :
    exec (.readEvents l t []) s = .next (settle (joinReply l 0x13
      (0 :: le16 (pendingWord s l).toNat ++ le16 (enableWord s l).toNat) (received l t s))) :=
  congrArg answer (takeRequest_lengthOnly serves t 0x13 _)

theorem exec_modifyEvents_taken {l : Link} {s : State} (serves : Serves l s) (t : Instant) (x y : Byte) :
    exec (.modifyEvents l t [x, y]) s = .next (settle (modifyEvents l (y ++ x) (received l t s))) := by
  rw [← ofNat_field16]
  exact congrArg answer (takeRequest_lengthOnly serves t 0x14 _)

theorem exec_setEventEnables_taken {l : Link} {s : State} (serves : Serves l s) (t : Instant) (x y : Byte) :
    exec (.setEventEnables l t [x, y]) s = .next (settle (setEnables l (y ++ x) (received l t s))) := by
  rw [← ofNat_field16]
  exact congrArg answer (takeRequest_lengthOnly serves t 0x15 _)

/-- Settles O50: each request does what its model function does in the received state; the end of the command sets
the level bits and the lines. -/
theorem eventWordsAreServed : Obligations.EventWordsAreServed := by
  refine ⟨fun l t s serves => ⟨exec_readEvents_taken serves t, fun w x y words => ?enables⟩,
    fun l t x y s w serves words => ⟨_, _, exec_modifyEvents_taken serves t x y, rfl, ?modify⟩⟩
  case enables =>
    rw [exec_setEventEnables_taken serves, setEnables_of_events (s := received l t s) words, le16_append,
      pendingWord_of_events words]
    rfl
  case modify =>
    rw [modifyEvents_of_events (s := received l t s) words]
    refine ⟨?events, ?links, by simp⟩
    case events => simp [events_settle, settle_eq_raisedUnit, clearedWord]
    case links => simp [links_joinReply_setEvents, clearedWord]

end Sys2Proof.Machine
end

section
/-! PROOF. What one step can do, said once: each effect a command can have with the guards under which it has it,
and the induction that carries a law through every step. -/

namespace Sys2Proof.Machine

/-! ### The ladder read backwards -/

/-- A request that no check refuses has passed every rank (R175). -/
theorem refusalOf_eq_none {c : Checks} {l : Link} {s : State} (h : refusalOf c l s = none) :
    c.first = none ∧ c.permitted = true ∧ (c.needsAuthority = true → authorityRefusal l s = none) ∧
      c.stateRefusal = none ∧ c.parameterRefusal = none := by
  unfold refusalOf at h
  cases first : c.first with
  | some x => simp [first] at h
  | none =>
    cases permitted : c.permitted with
    | false => simp [first, permitted] at h
    | true =>
      cases needs : c.needsAuthority <;> cases authority : authorityRefusal l s <;>
        cases state : c.stateRefusal <;> simp_all

/-! ### The effects of commands -/

/-- What the frames, the exchange, the transmitters and the requests that only read or that start no more than a
reply or an operation can do to a state before its events settle, with the guards that the laws rest on. -/
inductive Quiet (s : State) : State → Prop
  | nothing : Quiet s s
  | timePasses (t : Instant) : Quiet s (advanceTo t s)
  | frameEnds (l : Link) (t : Instant) : Quiet s (frameEnds l t s)
  | frameGoesOn (l : Link) (t : Instant) (bytes : List Byte) : Quiet s (continueFrame l t bytes s)
  | frameAbandoned (l : Link) (t : Instant) : Quiet s (abandonFrame l t s)
  | requestDiscarded (l : Link) (t : Instant) (up : (s.link l).state = .up) : Quiet s (received l t s)
  | replyListFull (l : Link) (t : Instant) (up : (s.link l).state = .up) :
      Quiet s (raiseOn l .frameRejected (received l t s))
  | refused (l : Link) (t : Instant) (kind : Byte) (c : Code) (serves : Serves l s) :
      Quiet s (refuse l kind c (received l t s))
  | answered (l : Link) (t : Instant) (kind : Byte) (p : List Byte) (serves : Serves l s) :
      Quiet s (joinReply l kind p (received l t s))
  | statusAnswered (l : Link) (t : Instant) (p : List Byte) (n : Nat) (serves : Serves l s) :
      Quiet s (replyOk l 0x11 p ((received l t s).setFree n))
  | eventsModified (l : Link) (t : Instant) (mask : EventWord) (serves : Serves l s) :
      Quiet s (modifyEvents l mask (received l t s))
  | enablesSet (l : Link) (t : Instant) (word : EventWord) (serves : Serves l s) :
      Quiet s (setEnables l word (received l t s))
  | reinitializeTaken (l : Link) (t : Instant) (serves : Serves l s) :
      Quiet s (replyOk l 0x17 [] ((received l t s).setSeq { s.seq with reinit := .replying l }))
  | operationTaken (l : Link) (t : Instant) (name : StoreOpName) (sector : Option (BitVec 3)) (serves : Serves l s) :
      Quiet s (startOp l name sector none (received l t s))
  | readStoreTaken (t : Instant) (p : List Byte) (serves : Serves .accessory s)
      (answered : readStoreOutstanding s = false) : Quiet s (queueRead p (received .accessory t s))
  | wordRejected (l : Link) (t : Instant) : Quiet s (rejectWord l (Machine.frameEnds l t s))
  | wordReceived (l : Link) (t : Instant) (w : MasterWord) (started : s.started = true) :
      Quiet s (receiveWord l w (Machine.frameEnds l t s))
  | abilityDue (l : Link) (due next : Instant) (running : (s.link l).sendDue = some due) :
      Quiet s (abilitySend l next (advanceTo due s))
  | detectEnds (l : Link) (due : Instant) (state : (s.link l).state = .abilityDetect) :
      Quiet s (detectTimeout l (advanceTo due s))
  | acknowledgeEnds (l : Link) (due : Instant) (state : (s.link l).state = .acknowledge) :
      Quiet s (acknowledgeTimeout l (advanceTo due s))
  | upEnds (l : Link) (due : Instant) (up : (s.link l).state = .up) :
      Quiet s (enterSilent l (leaveUp l (advanceTo due s)))
  | frameSent (l : Link) (t : Instant) (f : TxFrame) :
      Quiet s (afterTransmit l f ((advanceTo t s).setLink l { (advanceTo t s).link l with sending := none }))
  | reportDue (due : Instant) (up : (s.link .accessory).state = .up) :
      Quiet s (sendPeriodicReport due (advanceTo due s))
  | renegotiated (l : Link) (due : (s.link l).renegotiateDue = true) : Quiet s (enterDetect l 0 none (leaveUp l s))
  | droppedReadEnds (r : ReadRequest) (since : Instant) (port : s.store.port = some ⟨.readStore r true, since⟩) :
      Quiet s (endRead since 40 s)
  | readStoreEnds (r : ReadRequest) (since : Instant) (p : List Byte)
      (port : s.store.port = some ⟨.readStore r false, since⟩) : Quiet s (answerReadStore p (endRead since 40 s))

/-- What start-up, the front end, the table store, the cache and the marks can do to a state before its events settle:
frame timing and the engine are left to their re-evaluation. -/
inductive Apart (s : State) : State → Prop
  | anchorSet (l : Link) (t : Instant) (power : Nat) (serves : Serves l s) :
      Apart s (setAnchor l power (received l t s))
  | anchorTaken (l : Link) (t : Instant) (serves : Serves l s) : Apart s (anchorHere l (received l t s))
  | markSet (l : Link) (t : Instant) (p : List Byte) (serves : Serves l s) (length : markLengthOk p = true)
      (id : byteAt p 0 ≤ 7) : Apart s (setMark l p (received l t s))
  | markDeleted (l : Link) (t : Instant) (id : Nat) (serves : Serves l s) : Apart s (deleteMark l id (received l t s))
  | pathLocked (l : Link) (t : Instant) (start stop : Nat) (serves : Serves l s) :
      Apart s (lockPath l start stop (received l t s))
  | pathUnlocked (l : Link) (t : Instant) (serves : Serves l s) : Apart s (unlockPath l (received l t s))
  | pageLoaded (l : Link) (t : Instant) (p : List Byte) (serves : Serves l s) (length : 2 ≤ p.length)
      (fits : byteAt p 0 + (p.length - 1) ≤ 256) : Apart s (loadPage l p (received l t s))
  | programTaken (l : Link) (t : Instant) (sector : BitVec 3) (page : BitVec 8) (serves : Serves l s) :
      Apart s (startProgram l sector page (received l t s))
  | eraseTaken (l : Link) (t : Instant) (sector : BitVec 3) (serves : Serves l s) :
      Apart s (startErase l sector (received l t s))
  | ramChecked (since t attempt : Instant) (bits : Nat) (disabled : Bool) (tests : PerAxis EncoderTest)
      (phase : s.seq.phase = .cacheRam since) :
      Apart s (setPhase (.encoders attempt tests) ((failBits bits (advanceTo t s)).setCache (.reset disabled)))
  | attemptBegins (attempt next : Instant) (tests tests' : PerAxis EncoderTest)
      (phase : s.seq.phase = .encoders attempt tests) : Apart s (setPhase (.encoders next tests') (advanceTo next s))
  | attemptEnds (attempt t : Instant) (tests tests' : PerAxis EncoderTest)
      (phase : s.seq.phase = .encoders attempt tests) : Apart s (afterEncoderRead attempt tests' (advanceTo t s))
  | markerRead (reinit : Bool) (since t : Instant) (phase : s.seq.phase = .marker reinit since) :
      Apart s (setPhase (.scan reinit (advanceTo t s).now)
        ((advanceTo t s).setStore { s.store with readProtection := markerSet s.store.flash }))
  | startScanEnds (since t : Instant) (reinit : Bool) (phase : s.seq.phase = .scan reinit since) :
      Apart s (endStartup (if reinit then scanResults (advanceTo t s) else
        failBits (scanFailBits (scanResults (advanceTo t s))) (scanResults (advanceTo t s))))
  | rescanEnds (o : StoreOp) (t : Instant) (op : s.store.op = some o) :
      Apart s (completeOp o .done (scanResults (advanceTo t s)))
  | samplingBegins (t : Instant) :
      Apart s ((advanceTo t s).setFront { s.front with
        axes := s.front.axes.mapAxes (startRead s t), nextSampling := some (addInterval t 500) })
  | sampleFiled (a : Axis) (t : Instant) (x : Sample) (reading : (s.front.axes.get a).reading.isSome = true) :
      Apart s (applySample a x (advanceTo t s))
  | portReads (x : PortSource) (next : nextSource s = some x) (free : portFree s = true) : Apart s (startSource x s)
  | walkReadEnds (k : Key) (cell : Cell) (g : Nat) (dropped : Bool) (since : Instant)
      (port : s.store.port = some ⟨.walk k cell g dropped, since⟩) :
      Apart s (finishWalkRead k cell g dropped (endRead since 24 s))
  | workBegins (o : StoreOp) (op : s.store.op = some o) (free : s.store.port = none) : Apart s (beginWork o s)
  | eraseEnds (o : StoreOp) (n : BitVec 3) (t : Instant) (op : s.store.op = some o) :
      Apart s (finishErase o n (advanceTo t s))
  | programEnds (o : StoreOp) (n : BitVec 3) (p : BitVec 8) (t : Instant) (op : s.store.op = some o) :
      Apart s (finishProgram o n p (advanceTo t s))
  | protectEnds (o : StoreOp) (t : Instant) (op : s.store.op = some o) : Apart s (finishProtect o (advanceTo t s))
  | clearSectorEnds (o : StoreOp) (n : BitVec 3) (t : Instant) (op : s.store.op = some o) :
      Apart s (finishClearSector o n (advanceTo t s))

/-- What a command can do to a state before its events settle. -/
inductive Effect (s : State) : State → Prop
  | quiet {u : State} (change : Quiet s u) : Effect s u
  | apart {u : State} (change : Apart s u) : Effect s u
  | formatReplaced (l : Link) (t : Instant) (p : List Byte) (serves : Serves l s) :
      Effect s (replyOk l 0x20 (formatFields (formatOf p))
        ((received l t s).setTiming { (received l t s).timing with format := formatOf p }))
  | infoReplaced (l : Link) (t : Instant) (p : List Byte) (serves : Serves l s) :
      Effect s (setInfo l p (received l t s))
  | modeWritten (l : Link) (t : Instant) (p : List Byte) (serves : Serves l s) :
      Effect s (writeMode l p (received l t s))
  | reinitialized (due : s.seq.reinit = .due) : Effect s (reinitialized s)
  | resetLeft (bySupply : Bool) (straps : Straps) (held : s.seq.phase = .held bySupply) :
      Effect s { s with
        seq := { phase := .cacheRam 0, straps := straps, cause := if bySupply then .power else .pin, failMask := 0,
                 reinit := .idle },
        front := .reset straps, timing := .reset 0, store := .reset s.store.flash erasedPage false,
        cache := .reset false, engine := .reset, links := ⟨.reset, .reset⟩, auth := .reset, events := eventsReset }
  | edgeCaptured (t : Instant) : Effect s (applyEdge (advanceTo t s))
  | streamLost (t : Instant) : Effect s (loseStream (advanceTo t s))
  | patternComputed (e : Entry) (x : Inputs) (starts : startable s = some (e, x)) :
      Effect s (computePattern e x (advanceTo e.compute s))
  | computationBegins (e : Entry) (x : Inputs) (starts : startable s = some (e, x)) :
      Effect s (computeFrame e x (advanceTo e.compute s))
  | cutOff (t : Instant) : Effect s (onComputing (fun e c g => endComputation e c.holdMissing g) (advanceTo t s))
  | recordLeaves (e : Entry) (d : Delivered) (rest : List Entry) (frames : s.timing.frames = e :: rest)
      (ready : e.progress = .ready d) : Effect s (handOver e d rest (advanceTo e.due s))
  | fillEnds (k : Key) (cell : Cell) (since : Instant) (port : s.store.port = some ⟨.fill k cell, since⟩) :
      Effect s (finishFill k cell (endRead since 24 s))

/-! ### Requests -/

/-- A request frame does nothing, ends its frame, is discarded, abandoned, refused or carried out. -/
theorem takeRequest_effect {l : Link} {t : Instant} {kind : Byte} {checks : State → Checks} {act : State → State}
    {s : State} (carriedOut : Serves l s → refusalOf (checks (received l t s)) l (received l t s) = none →
      Effect s (act (received l t s))) : Effect s (takeRequest l t kind checks act s) := by
  by_cases held : s.isHeld = true
  · rw [takeRequest_held held]; exact .quiet (.nothing)
  by_cases up : s.started = true ∧ (s.link l).state = .up
  · obtain ⟨started, up⟩ := up
    by_cases idle : s.seq.reinit = .idle
    · by_cases full : Machine.replyListFull l s = true
      · rw [takeRequest_of_full started up idle full]; exact .quiet (.replyListFull l t up)
      · have serves : Serves l s := ⟨started, up, idle, by simpa using full⟩
        rw [takeRequest_of_serves serves]
        cases verdict : refusalOf (checks (received l t s)) l (received l t s) with
        | some c => exact .quiet (.refused l t kind c serves)
        | none => exact carriedOut serves verdict
    · rw [takeRequest_of_reinit started up idle]; exact .quiet (.requestDiscarded l t up)
  · rw [takeRequest_outside_up (by simpa using held) (by
      by_cases started : s.started = true
      · exact .inr fun h => up ⟨started, h⟩
      · exact .inl (by simpa using started))]
    exact .quiet (.frameEnds l t)

section
variable (l : Link) (t : Instant) (p : List Byte) (s : State)

theorem takeAbility_effect : Effect s (takeAbility l t p s) := by
  simp only [takeAbility]
  split
  case isTrue => exact .quiet (.nothing)
  case isFalse =>
    have same : (frameEnds l t s).started = s.started := rfl
    split
    case isTrue => exact .quiet (.frameEnds l t)
    case isFalse started =>
      split
      case h_1 => exact .quiet (.wordRejected l t)
      case h_2 w _ => exact .quiet (.wordReceived l t w (by simpa [same] using started))

theorem takeWriteModeSet_effect : Effect s (takeWriteModeSet l t p s) :=
  takeRequest_effect fun serves _ => .modeWritten l t p serves

theorem takeSetMark_effect : Effect s (takeSetMark l t p s) := by
  refine takeRequest_effect fun serves passes => ?_
  obtain ⟨length, -, -, -, parameter⟩ := refusalOf_eq_none passes
  have length : markLengthOk p = true := by simpa [authorityChecks, lengthOnly] using length
  refine .apart (.markSet l t p serves length ?_)
  by_contra beyond
  simp [authorityChecks, setMarkRefusal, idRefusal, Nat.lt_of_not_le beyond] at parameter

theorem takeLoadPageBuffer_effect : Effect s (takeLoadPageBuffer l t p s) := by
  refine takeRequest_effect fun serves passes => ?_
  obtain ⟨length, -, -, -, parameter⟩ := refusalOf_eq_none passes
  have length : 2 ≤ p.length ∧ p.length ≤ 129 := by simpa [storeChecks, lengthOnly] using length
  exact .apart (.pageLoaded l t p serves length.1 (by simpa [storeChecks] using parameter))

theorem takeReadStore_effect : Effect s (takeReadStore l t p s) := by
  refine takeRequest_effect fun serves passes => ?_
  obtain ⟨-, permitted, -, state, -⟩ := refusalOf_eq_none passes
  obtain rfl : l = .accessory := by simpa [readStoreChecks] using permitted
  refine .quiet (.readStoreTaken t p serves ?_)
  have same : readStoreOutstanding (received .accessory t s) = readStoreOutstanding s := rfl
  cases outstanding : readStoreOutstanding s with
  | false => rfl
  | true => simp [readStoreChecks, readStoreRefusal, same, outstanding] at state

/-- A good frame has the effect of its kind's row. -/
theorem goodFrame_effect (kind : Byte) : Effect s (goodFrame l t kind p s) := by
  unfold goodFrame
  split
  · exact takeAbility_effect l t p s
  · exact takeRequest_effect fun serves _ => .quiet (.answered l t _ _ serves)
  · exact takeRequest_effect fun serves _ => .quiet (.statusAnswered l t _ _ serves)
  · exact takeRequest_effect fun serves _ => .quiet (.answered l t _ _ serves)
  · exact takeRequest_effect fun serves _ => .quiet (.answered l t _ _ serves)
  · exact takeRequest_effect fun serves _ => .quiet (.eventsModified l t _ serves)
  · exact takeRequest_effect fun serves _ => .quiet (.enablesSet l t _ serves)
  · exact takeRequest_effect fun serves _ => .quiet (.answered l t _ _ serves)
  · exact takeRequest_effect fun serves _ => .quiet (.reinitializeTaken l t serves)
  · exact takeRequest_effect fun serves _ => .formatReplaced l t p serves
  · exact takeRequest_effect fun serves _ => .infoReplaced l t p serves
  · exact takeWriteModeSet_effect l t p s
  · exact takeRequest_effect fun serves _ => .quiet (.answered l t _ _ serves)
  · exact takeRequest_effect fun serves _ => .apart (.anchorSet l t _ serves)
  · exact takeRequest_effect fun serves _ => .apart (.anchorTaken l t serves)
  · exact takeSetMark_effect l t p s
  · exact takeRequest_effect fun serves _ => .apart (.markDeleted l t _ serves)
  · exact takeRequest_effect fun serves _ => .quiet (.answered l t _ _ serves)
  · exact takeRequest_effect fun serves _ => .apart (.pathLocked l t _ _ serves)
  · exact takeRequest_effect fun serves _ => .apart (.pathUnlocked l t serves)
  · exact takeRequest_effect fun serves _ => .quiet (.answered l t _ _ serves)
  · exact takeRequest_effect fun serves _ => .quiet (.answered l t _ _ serves)
  · exact takeLoadPageBuffer_effect l t p s
  · exact takeRequest_effect fun serves _ => .apart (.programTaken l t _ _ serves)
  · exact takeRequest_effect fun serves _ => .apart (.eraseTaken l t _ serves)
  · exact takeRequest_effect fun serves _ => .quiet (.operationTaken l t _ _ serves)
  · exact takeReadStore_effect l t p s
  · exact takeRequest_effect fun serves _ => .quiet (.operationTaken l t _ _ serves)
  · exact takeRequest_effect fun serves _ => .quiet (.operationTaken l t _ _ serves)
  · exact takeRequest_effect fun _ passes => nomatch (refusalOf_eq_none passes).1

end

/-- A received byte is discarded, goes on, ends its frame badly or completes a good one. -/
theorem receiveByte_effect (l : Link) (t : Instant) (b : Byte) (s : State) : Effect s (receiveByte l t b s) := by
  unfold receiveByte
  split
  case isTrue => exact .quiet (.nothing)
  case isFalse =>
    split
    case isTrue => exact .quiet (.timePasses t)
    case isFalse =>
      split
      case h_1 => exact .quiet (.timePasses t)
      case h_2 bytes _ => exact .quiet (.frameGoesOn l t bytes)
      case h_3 => exact .quiet (.frameAbandoned l t)
      case h_4 => exact goodFrame_effect ..

/-! ### Commands -/

/-- A next state is the state as it was, or an effect with its events settled. -/
def Answers (s : State) (r : Result) : Prop := r = .next s ∨ ∃ u, Effect s u ∧ r = .next (settle u)

theorem answers_same (s : State) : Answers s (.next s) := .inl rfl

theorem answers_effect {s u : State} (h : Effect s u) : Answers s (answer u) := .inr ⟨u, h, rfl⟩

theorem execTableScanEnd_answers (s : State) : Answers s (execTableScanEnd s) := by
  unfold execTableScanEnd
  split
  case h_1 reinit since phase => exact answers_effect (.apart (.startScanEnds since _ reinit phase))
  case h_2 =>
    split
    case h_1 n p since op => exact answers_effect (.apart (.rescanEnds _ _ op))
    case h_2 => exact answers_same s

theorem execComputationStart_answers (s : State) : Answers s (execComputationStart s) := by
  unfold execComputationStart
  split
  case h_1 => exact answers_same s
  case h_2 e x starts =>
    apply answers_effect
    split
    case isTrue => exact .patternComputed e x starts
    case isFalse => exact .computationBegins e x starts

theorem execReadStoreReadEnd_answers (s : State) : Answers s (execReadStoreReadEnd s) := by
  unfold execReadStoreReadEnd
  split
  case h_1 r dropped since port =>
    apply answers_effect
    cases dropped with
    | true => exact .quiet (.droppedReadEnds r since port)
    | false => exact .quiet (.readStoreEnds r since _ port)
  case h_2 => exact answers_same s

theorem execPeriodicReportDue_answers (s : State) : Answers s (execPeriodicReportDue s) := by
  unfold execPeriodicReportDue
  split
  case h_1 due _ =>
    split
    case isTrue up =>
      have up : (s.link .accessory).state = .up := by
        simp only [Bool.and_eq_true, accessoryUp, decide_eq_true_eq] at up
        exact up.1
      exact answers_effect (.quiet (.reportDue due up))
    case isFalse => exact answers_same s
  case h_2 => exact answers_same s

theorem execAbilityTimeout_answers (l : Link) (s : State) : Answers s (execAbilityTimeout l s) := by
  unfold execAbilityTimeout
  split
  case h_1 due state _ => exact answers_effect (.quiet (.detectEnds l due state))
  case h_2 due state _ => exact answers_effect (.quiet (.acknowledgeEnds l due state))
  case h_3 => exact answers_same s

theorem execPortReadStart_answers (s : State) : Answers s (execPortReadStart s) := by
  unfold execPortReadStart
  split
  case h_1 x next =>
    split
    case isTrue free => exact answers_effect (.apart (.portReads x next free))
    case isFalse => exact answers_same s
  case h_2 => exact answers_same s

theorem execStoreWorkBegins_answers (s : State) : Answers s (execStoreWorkBegins s) := by
  unfold execStoreWorkBegins
  split
  case h_1 op =>
    split
    case isTrue free => exact answers_effect (.apart (.workBegins _ op (by simpa using free)))
    case isFalse => exact answers_same s
  case h_2 => exact answers_same s

theorem execFrameAbandoned_answers (l : Link) (t : Instant) (b : Byte) (s : State) :
    Answers s (execFrameAbandoned l t b s) := by
  unfold execFrameAbandoned
  split
  case h_1 =>
    split
    case isTrue => exact answers_effect (.quiet (.frameAbandoned l t))
    case isFalse => exact answers_same s
  case h_2 => exact answers_same s

theorem execSelfTestEncoderAttempt_answers (s : State) : Answers s (execSelfTestEncoderAttempt s) := by
  unfold execSelfTestEncoderAttempt
  split
  case h_1 attempt tests phase =>
    split
    case isTrue => exact answers_same s
    case isFalse => exact answers_effect (.apart (.attemptBegins attempt _ tests _ phase))
  case h_2 => exact answers_same s

theorem execSelfTestEncoderReadDone_answers (a : Axis) (bits : BitVec 16) (s : State) :
    Answers s (execSelfTestEncoderReadDone a bits s) := by
  unfold execSelfTestEncoderReadDone
  split
  case h_1 attempt tests phase =>
    split
    case h_1 => exact answers_effect (.apart (.attemptEnds attempt _ tests _ phase))
    case h_2 => exact answers_same s
  case h_2 => exact answers_same s

theorem execSamplingInstant_answers (s : State) : Answers s (execSamplingInstant s) := by
  unfold execSamplingInstant
  split
  case h_1 t _ =>
    split
    case isTrue => exact answers_same s
    case isFalse => exact answers_effect (.apart (.samplingBegins t))
  case h_2 => exact answers_same s

theorem execSyncEdge_answers (t : Instant) (s : State) : Answers s (execSyncEdge t s) := by
  unfold execSyncEdge
  split
  case isTrue => exact answers_same s
  case isFalse => exact answers_effect (.edgeCaptured t)

/-- What a command can do: hold the part in reset, or answer with one of the effects. -/
theorem exec_answers (c : Instr) (s : State) :
    (∃ bySupply, exec c s = .next (holdInReset bySupply s)) ∨ Answers s (exec c s) := by
  cases c with
  | powerOn => exact .inl ⟨_, rfl⟩
  | pinReset => exact .inl ⟨_, rfl⟩
  | leaveReset straps =>
    right; simp only [exec, execLeaveReset]
    split
    case h_1 b held => exact answers_effect (.resetLeft b straps held)
    case h_2 => exact answers_same s
  | cacheRamCheckDone passed =>
    right; simp only [exec, execCacheRamCheckDone]
    split
    case h_1 since phase =>
      exact answers_effect (.apart (.ramChecked since _ _ _ _ _ phase))
    case h_2 => exact answers_same s
  | selfTestEncoderAttempt => exact .inr (execSelfTestEncoderAttempt_answers s)
  | selfTestEncoderReadDone a bits => exact .inr (execSelfTestEncoderReadDone_answers a bits s)
  | markerAreaReadDone =>
    right; simp only [exec, execMarkerAreaReadDone]
    split
    case h_1 reinit since phase => exact answers_effect (.apart (.markerRead reinit since _ phase))
    case h_2 => exact answers_same s
  | tableScanEnd => exact .inr (execTableScanEnd_answers s)
  | samplingInstant => exact .inr (execSamplingInstant_answers s)
  | encoderReadComplete a bits =>
    right; simp only [exec, execEncoderReadComplete]
    split
    case h_1 t reading => exact answers_effect (.apart (.sampleFiled a _ _ (by simp [reading])))
    case h_2 => exact answers_same s
  | syncEdge t => exact .inr (execSyncEdge_answers t s)
  | streamTimeout =>
    right; simp only [exec, execStreamTimeout]
    split
    case h_1 t _ => exact answers_effect (.streamLost t)
    case h_2 => exact answers_same s
  | computationStart => exact .inr (execComputationStart_answers s)
  | cutoff =>
    right; simp only [exec, execCutoff]
    split
    case h_1 e _ _ => exact answers_effect (.cutOff e.cutoff)
    case h_2 => exact answers_same s
  | dueInstant =>
    right; simp only [exec, execDueInstant]
    split
    case h_1 frames => exact answers_effect (.recordLeaves _ _ _ frames rfl)
    case h_2 => exact answers_same s
  | portReadStart => exact .inr (execPortReadStart_answers s)
  | fillComplete =>
    right; simp only [exec, execFillComplete]
    split
    case h_1 k cell since port => exact answers_effect (.fillEnds k cell since port)
    case h_2 => exact answers_same s
  | walkReadComplete =>
    right; simp only [exec, execWalkReadComplete]
    split
    case h_1 k cell g dropped since port => exact answers_effect (.apart (.walkReadEnds k cell g dropped since port))
    case h_2 => exact answers_same s
  | readStoreReadEnd => exact .inr (execReadStoreReadEnd_answers s)
  | storeWorkBegins => exact .inr (execStoreWorkBegins_answers s)
  | eraseComplete =>
    right; simp only [exec, execEraseComplete]
    split
    case h_1 op => exact answers_effect (.apart (.eraseEnds _ _ _ op))
    case h_2 => exact answers_same s
  | programComplete =>
    right; simp only [exec, execProgramComplete]
    split
    case h_1 op => exact answers_effect (.apart (.programEnds _ _ _ _ op))
    case h_2 => exact answers_same s
  | setReadProtectionComplete =>
    right; simp only [exec, execSetReadProtectionComplete]
    split
    case h_1 op => exact answers_effect (.apart (.protectEnds _ _ op))
    case h_2 => exact answers_same s
  | clearProtectionSectorErased =>
    right; simp only [exec, execClearProtectionSectorErased]
    split
    case h_1 op => exact answers_effect (.apart (.clearSectorEnds _ _ _ op))
    case h_2 => exact answers_same s
  | frameAbandoned l t b => exact .inr (execFrameAbandoned_answers l t b s)
  | frameGapTimeout l =>
    right; simp only [exec, execFrameGapTimeout]
    split
    case h_1 due _ => exact answers_effect (.quiet (.frameAbandoned l due))
    case h_2 => exact answers_same s
  | ability l t p => exact .inr (answers_effect (takeAbility_effect l t p s))
  | abilitySendDue l =>
    right; simp only [exec, execAbilitySendDue]
    split
    case h_1 due running => exact answers_effect (.quiet (.abilityDue l due _ running))
    case h_2 => exact answers_same s
  | abilityTimeout l => exact .inr (execAbilityTimeout_answers l s)
  | linkUpTimeout l =>
    right; simp only [exec, execLinkUpTimeout]
    split
    case h_1 due up _ => exact answers_effect (.quiet (.upEnds l due up))
    case h_2 => exact answers_same s
  | transmitEnd l =>
    right; simp only [exec, execTransmitEnd]
    split
    case h_1 f since _ => exact answers_effect (.quiet (.frameSent l _ f))
    case h_2 => exact answers_same s
  | periodicReportDue => exact .inr (execPeriodicReportDue_answers s)
  | reinitializeRestart =>
    right; simp only [exec, execReinitializeRestart]
    split
    case isTrue due => exact answers_effect (.reinitialized due)
    case isFalse => exact answers_same s
  | renegotiateLinkRestart l =>
    right; simp only [exec, execRenegotiateLinkRestart]
    split
    case isTrue due => exact answers_effect (.quiet (.renegotiated l due))
    case isFalse => exact answers_same s
  | unknownKindRequest l t k p => exact .inr (answers_effect (goodFrame_effect l t p s k))
  | byteReceived l t b => exact .inr (answers_effect (receiveByte_effect l t b s))
  | identify l t p => exact .inr (answers_effect (goodFrame_effect l t p s 0x10))
  | readStatus l t p => exact .inr (answers_effect (goodFrame_effect l t p s 0x11))
  | readPosition l t p => exact .inr (answers_effect (goodFrame_effect l t p s 0x12))
  | readEvents l t p => exact .inr (answers_effect (goodFrame_effect l t p s 0x13))
  | modifyEvents l t p => exact .inr (answers_effect (goodFrame_effect l t p s 0x14))
  | setEventEnables l t p => exact .inr (answers_effect (goodFrame_effect l t p s 0x15))
  | renegotiate l t p => exact .inr (answers_effect (goodFrame_effect l t p s 0x16))
  | reinitialize l t p => exact .inr (answers_effect (goodFrame_effect l t p s 0x17))
  | frameFormat l t p => exact .inr (answers_effect (goodFrame_effect l t p s 0x20))
  | frameInfo l t p => exact .inr (answers_effect (goodFrame_effect l t p s 0x21))
  | writeModeSet l t p => exact .inr (answers_effect (goodFrame_effect l t p s 0x22))
  | readModeSet l t p => exact .inr (answers_effect (goodFrame_effect l t p s 0x23))
  | setAnchor l t p => exact .inr (answers_effect (goodFrame_effect l t p s 0x30))
  | anchorHere l t p => exact .inr (answers_effect (goodFrame_effect l t p s 0x31))
  | setMark l t p => exact .inr (answers_effect (goodFrame_effect l t p s 0x32))
  | deleteMark l t p => exact .inr (answers_effect (goodFrame_effect l t p s 0x33))
  | readMarks l t p => exact .inr (answers_effect (goodFrame_effect l t p s 0x34))
  | lockPath l t p => exact .inr (answers_effect (goodFrame_effect l t p s 0x38))
  | unlock l t p => exact .inr (answers_effect (goodFrame_effect l t p s 0x39))
  | cacheStatus l t p => exact .inr (answers_effect (goodFrame_effect l t p s 0x3A))
  | dumpCache l t p => exact .inr (answers_effect (goodFrame_effect l t p s 0x3B))
  | loadPageBuffer l t p => exact .inr (answers_effect (goodFrame_effect l t p s 0x40))
  | programPage l t p => exact .inr (answers_effect (goodFrame_effect l t p s 0x41))
  | eraseSector l t p => exact .inr (answers_effect (goodFrame_effect l t p s 0x42))
  | rescanTables l t p => exact .inr (answers_effect (goodFrame_effect l t p s 0x43))
  | readStore l t p => exact .inr (answers_effect (goodFrame_effect l t p s 0x44))
  | setReadProtection l t p => exact .inr (answers_effect (goodFrame_effect l t p s 0x45))
  | clearReadProtection l t p => exact .inr (answers_effect (goodFrame_effect l t p s 0x46))

/-! ### The induction over a step -/

/-- A law that the queue, the passing of a microsecond, a reset and every effect with its events settled keep is kept
by every step. -/
theorem step_keeps {P : State → Prop} (queue : ∀ s q, P s → P { s with pending := q })
    (time : ∀ s, P s → P (tick s)) (reset : ∀ b s, P s → P (holdInReset b s))
    (effect : ∀ s u, P s → Effect s u → P (settle u)) :
    ∀ s t, P s → step s = .next t → P t := by
  intro s t law steps
  unfold step at steps
  split at steps
  case h_1 => cases steps; exact time s law
  case h_2 c rest _ =>
    have law := queue s rest law
    rcases exec_answers c { s with pending := rest } with ⟨b, holds⟩ | same | ⟨u, effects, settles⟩
    · rw [holds] at steps; cases steps; exact reset b _ law
    · rw [same] at steps; cases steps; exact law
    · rw [settles] at steps; cases steps; exact effect _ u law effects

end Sys2Proof.Machine
end

section
/-! PROOF. What each request and each end of an operation leaves as it was, and what the exchange and the engine's
own changes of state leave still. -/

namespace Sys2Proof.Machine

/-! ### Frames of the requests and of the operations' ends -/

/-- What a function keeps, its repetition keeps. -/
theorem nat_repeat_keeps {α : Type} {P : α → Prop} {f : α → α} (step : ∀ x, P x → P (f x)) (n : Nat) {x : α}
    (start : P x) : P (Nat.repeat f n x) := by
  induction n with
  | zero => exact start
  | succ n ih => exact step _ ih

@[simp] theorem setInfo_frame (l : Link) (p : List Byte) (s : State) :
    (setInfo l p s).pending = s.pending ∧
    (setInfo l p s).free = s.free ∧
    (setInfo l p s).seq = s.seq ∧
    (setInfo l p s).front = s.front ∧
    (setInfo l p s).store = s.store ∧
    (setInfo l p s).cache = s.cache ∧
    (setInfo l p s).engine = s.engine ∧
    (setInfo l p s).auth = s.auth ∧
    (setInfo l p s).events = s.events := by
  unfold setInfo
  simp

@[simp] theorem writeMode_frame (l : Link) (p : List Byte) (s : State) :
    (writeMode l p s).pending = s.pending ∧
    (writeMode l p s).free = s.free ∧
    (writeMode l p s).seq = s.seq ∧
    (writeMode l p s).front = s.front ∧
    (writeMode l p s).store = s.store ∧
    (writeMode l p s).cache = s.cache ∧
    (writeMode l p s).auth = s.auth := by
  simp only [writeMode]
  split <;> simp

@[simp] theorem setAnchor_frame (l : Link) (n : Nat) (s : State) :
    (setAnchor l n s).pending = s.pending ∧
    (setAnchor l n s).free = s.free ∧
    (setAnchor l n s).seq = s.seq ∧
    (setAnchor l n s).front = s.front ∧
    (setAnchor l n s).timing = s.timing ∧
    (setAnchor l n s).store = s.store ∧
    (setAnchor l n s).cache = s.cache ∧
    (setAnchor l n s).engine = s.engine ∧
    (setAnchor l n s).events = s.events := by
  unfold setAnchor
  simp

@[simp] theorem anchorHere_frame (l : Link) (s : State) :
    (anchorHere l s).pending = s.pending ∧
    (anchorHere l s).free = s.free ∧
    (anchorHere l s).seq = s.seq ∧
    (anchorHere l s).front = s.front ∧
    (anchorHere l s).timing = s.timing ∧
    (anchorHere l s).store = s.store ∧
    (anchorHere l s).cache = s.cache ∧
    (anchorHere l s).engine = s.engine ∧
    (anchorHere l s).events = s.events := by
  simp only [anchorHere]
  split <;> simp

@[simp] theorem markChanged_frame (n : Nat) (s : State) :
    ((markChanged n s).2).pending = s.pending ∧
    ((markChanged n s).2).free = s.free ∧
    ((markChanged n s).2).seq = s.seq ∧
    ((markChanged n s).2).front = s.front ∧
    ((markChanged n s).2).timing = s.timing ∧
    ((markChanged n s).2).engine = s.engine ∧
    ((markChanged n s).2).links = s.links ∧
    ((markChanged n s).2).auth = s.auth ∧
    ((markChanged n s).2).events = s.events := by
  simp only [markChanged]
  repeat' split
  all_goals simp

@[simp] theorem setMark_frame (l : Link) (p : List Byte) (s : State) :
    (setMark l p s).pending = s.pending ∧
    (setMark l p s).free = s.free ∧
    (setMark l p s).seq = s.seq ∧
    (setMark l p s).front = s.front ∧
    (setMark l p s).timing = s.timing ∧
    (setMark l p s).engine = s.engine ∧
    (setMark l p s).events = s.events := by
  simp only [setMark]
  simp

@[simp] theorem deleteMark_frame (l : Link) (n : Nat) (s : State) :
    (deleteMark l n s).pending = s.pending ∧
    (deleteMark l n s).free = s.free ∧
    (deleteMark l n s).seq = s.seq ∧
    (deleteMark l n s).front = s.front ∧
    (deleteMark l n s).timing = s.timing ∧
    (deleteMark l n s).engine = s.engine ∧
    (deleteMark l n s).events = s.events := by
  simp only [deleteMark]
  split <;> simp

@[simp] theorem lockPath_frame (l : Link) (m n : Nat) (s : State) :
    (lockPath l m n s).pending = s.pending ∧
    (lockPath l m n s).free = s.free ∧
    (lockPath l m n s).seq = s.seq ∧
    (lockPath l m n s).front = s.front ∧
    (lockPath l m n s).timing = s.timing ∧
    (lockPath l m n s).engine = s.engine ∧
    (lockPath l m n s).auth = s.auth := by
  simp only [lockPath]
  simp

@[simp] theorem loadPage_frame (l : Link) (p : List Byte) (s : State) :
    (loadPage l p s).pending = s.pending ∧
    (loadPage l p s).free = s.free ∧
    (loadPage l p s).seq = s.seq ∧
    (loadPage l p s).front = s.front ∧
    (loadPage l p s).timing = s.timing ∧
    (loadPage l p s).cache = s.cache ∧
    (loadPage l p s).engine = s.engine ∧
    (loadPage l p s).auth = s.auth ∧
    (loadPage l p s).events = s.events := by
  unfold loadPage
  simp

@[simp] theorem queueRead_frame (p : List Byte) (s : State) :
    (queueRead p s).pending = s.pending ∧
    (queueRead p s).free = s.free ∧
    (queueRead p s).seq = s.seq ∧
    (queueRead p s).front = s.front ∧
    (queueRead p s).timing = s.timing ∧
    (queueRead p s).cache = s.cache ∧
    (queueRead p s).engine = s.engine ∧
    (queueRead p s).links = s.links ∧
    (queueRead p s).auth = s.auth ∧
    (queueRead p s).events = s.events := by
  unfold queueRead
  simp

@[simp] theorem dismissReads_frame (s : State) :
    (dismissReads s).pending = s.pending ∧
    (dismissReads s).free = s.free ∧
    (dismissReads s).seq = s.seq ∧
    (dismissReads s).front = s.front ∧
    (dismissReads s).timing = s.timing ∧
    (dismissReads s).cache = s.cache ∧
    (dismissReads s).engine = s.engine ∧
    (dismissReads s).auth = s.auth ∧
    (dismissReads s).events = s.events := by
  simp only [dismissReads]
  exact nat_repeat_keeps (P := fun u : State => u.pending = s.pending ∧ u.free = s.free ∧ u.seq = s.seq ∧
    u.front = s.front ∧
    u.timing = s.timing ∧ u.cache = s.cache ∧ u.engine = s.engine ∧ u.auth = s.auth ∧ u.events = s.events)
    (fun u h => by simpa using h) _ (by simp)

@[simp] theorem startOp_frame (l : Link) (o : StoreOpName) (n : Option (BitVec 3)) (p : Option (BitVec 8)) (s : State) :
    (startOp l o n p s).pending = s.pending ∧
    (startOp l o n p s).free = s.free ∧
    (startOp l o n p s).seq = s.seq ∧
    (startOp l o n p s).front = s.front ∧
    (startOp l o n p s).timing = s.timing ∧
    (startOp l o n p s).cache = s.cache ∧
    (startOp l o n p s).engine = s.engine ∧
    (startOp l o n p s).auth = s.auth ∧
    (startOp l o n p s).events = s.events := by
  simp only [startOp]
  simp

@[simp] theorem startProgram_frame (l : Link) (n : BitVec 3) (p : BitVec 8) (s : State) :
    (startProgram l n p s).pending = s.pending ∧
    (startProgram l n p s).free = s.free ∧
    (startProgram l n p s).seq = s.seq ∧
    (startProgram l n p s).auth = s.auth := by
  unfold startProgram
  simp

@[simp] theorem startErase_frame (l : Link) (n : BitVec 3) (s : State) :
    (startErase l n s).pending = s.pending ∧
    (startErase l n s).free = s.free ∧
    (startErase l n s).seq = s.seq ∧
    (startErase l n s).auth = s.auth := by
  unfold startErase
  simp

@[simp] theorem modifyEvents_frame (l : Link) (m : EventWord) (s : State) :
    (modifyEvents l m s).pending = s.pending ∧
    (modifyEvents l m s).free = s.free ∧
    (modifyEvents l m s).seq = s.seq ∧
    (modifyEvents l m s).front = s.front ∧
    (modifyEvents l m s).timing = s.timing ∧
    (modifyEvents l m s).store = s.store ∧
    (modifyEvents l m s).cache = s.cache ∧
    (modifyEvents l m s).engine = s.engine ∧
    (modifyEvents l m s).auth = s.auth := by
  simp only [modifyEvents]
  simp

@[simp] theorem setEnables_frame (l : Link) (m : EventWord) (s : State) :
    (setEnables l m s).pending = s.pending ∧
    (setEnables l m s).free = s.free ∧
    (setEnables l m s).seq = s.seq ∧
    (setEnables l m s).front = s.front ∧
    (setEnables l m s).timing = s.timing ∧
    (setEnables l m s).store = s.store ∧
    (setEnables l m s).cache = s.cache ∧
    (setEnables l m s).engine = s.engine ∧
    (setEnables l m s).auth = s.auth := by
  simp only [setEnables]
  simp

@[simp] theorem detectTimeout_frame (l : Link) (s : State) :
    (detectTimeout l s).pending = s.pending ∧
    (detectTimeout l s).free = s.free ∧
    (detectTimeout l s).seq = s.seq ∧
    (detectTimeout l s).front = s.front ∧
    (detectTimeout l s).timing = s.timing ∧
    (detectTimeout l s).store = s.store ∧
    (detectTimeout l s).cache = s.cache ∧
    (detectTimeout l s).engine = s.engine ∧
    (detectTimeout l s).auth = s.auth ∧
    (detectTimeout l s).events = s.events := by
  unfold detectTimeout
  simp

@[simp] theorem acknowledgeTimeout_frame (l : Link) (s : State) :
    (acknowledgeTimeout l s).pending = s.pending ∧
    (acknowledgeTimeout l s).free = s.free ∧
    (acknowledgeTimeout l s).seq = s.seq ∧
    (acknowledgeTimeout l s).front = s.front ∧
    (acknowledgeTimeout l s).timing = s.timing ∧
    (acknowledgeTimeout l s).store = s.store ∧
    (acknowledgeTimeout l s).cache = s.cache ∧
    (acknowledgeTimeout l s).engine = s.engine ∧
    (acknowledgeTimeout l s).auth = s.auth ∧
    (acknowledgeTimeout l s).events = s.events := by
  unfold acknowledgeTimeout
  simp

@[simp] theorem afterTransmit_frame (l : Link) (f : TxFrame) (s : State) :
    (afterTransmit l f s).pending = s.pending ∧
    (afterTransmit l f s).free = s.free ∧
    (afterTransmit l f s).front = s.front ∧
    (afterTransmit l f s).timing = s.timing ∧
    (afterTransmit l f s).store = s.store ∧
    (afterTransmit l f s).cache = s.cache ∧
    (afterTransmit l f s).engine = s.engine ∧
    (afterTransmit l f s).auth = s.auth ∧
    (afterTransmit l f s).events = s.events := by
  simp only [afterTransmit]
  repeat' split
  all_goals simp

@[simp] theorem sendPeriodicReport_frame (t : Instant) (s : State) :
    (sendPeriodicReport t s).pending = s.pending ∧
    (sendPeriodicReport t s).free = s.free ∧
    (sendPeriodicReport t s).seq = s.seq ∧
    (sendPeriodicReport t s).front = s.front ∧
    (sendPeriodicReport t s).timing = s.timing ∧
    (sendPeriodicReport t s).store = s.store ∧
    (sendPeriodicReport t s).cache = s.cache ∧
    (sendPeriodicReport t s).auth = s.auth ∧
    (sendPeriodicReport t s).events = s.events := by
  unfold sendPeriodicReport
  simp

@[simp] theorem finishErase_frame (o : StoreOp) (n : BitVec 3) (s : State) :
    (finishErase o n s).pending = s.pending ∧
    (finishErase o n s).free = s.free ∧
    (finishErase o n s).seq = s.seq ∧
    (finishErase o n s).front = s.front ∧
    (finishErase o n s).cache = s.cache ∧
    (finishErase o n s).links = s.links ∧
    (finishErase o n s).auth = s.auth := by
  unfold finishErase
  simp

@[simp] theorem finishProgram_frame (o : StoreOp) (n : BitVec 3) (p : BitVec 8) (s : State) :
    (finishProgram o n p s).pending = s.pending ∧
    (finishProgram o n p s).free = s.free ∧
    (finishProgram o n p s).seq = s.seq ∧
    (finishProgram o n p s).front = s.front ∧
    (finishProgram o n p s).cache = s.cache ∧
    (finishProgram o n p s).links = s.links ∧
    (finishProgram o n p s).auth = s.auth := by
  simp only [finishProgram]
  simp

@[simp] theorem finishProtect_frame (o : StoreOp) (s : State) :
    (finishProtect o s).pending = s.pending ∧
    (finishProtect o s).free = s.free ∧
    (finishProtect o s).seq = s.seq ∧
    (finishProtect o s).front = s.front ∧
    (finishProtect o s).cache = s.cache ∧
    (finishProtect o s).links = s.links ∧
    (finishProtect o s).auth = s.auth := by
  simp only [finishProtect]
  simp

@[simp] theorem finishClearSector_frame (o : StoreOp) (n : BitVec 3) (s : State) :
    (finishClearSector o n s).pending = s.pending ∧
    (finishClearSector o n s).free = s.free ∧
    (finishClearSector o n s).seq = s.seq ∧
    (finishClearSector o n s).links = s.links ∧
    (finishClearSector o n s).auth = s.auth := by
  simp only [finishClearSector]
  split <;> simp

@[simp] theorem unlockPath_rest (l : Link) (s : State) :
    (unlockPath l s).pending = s.pending ∧
    (unlockPath l s).free = s.free ∧
    (unlockPath l s).seq = s.seq ∧
    (unlockPath l s).front = s.front ∧
    (unlockPath l s).timing = s.timing ∧
    (unlockPath l s).engine = s.engine ∧
    (unlockPath l s).auth = s.auth ∧
    (unlockPath l s).events = s.events := by
  simp [unlockPath]

/-! ### Laws that the quiet effects cannot break -/

/-- The enable words of the two links. -/
def enablesOf (x : Option (PerLink EventUnit)) : Option (EventWord × EventWord) :=
  x.map fun w => (w.body.enable, w.accessory.enable)

/-- A law that survives each elementary change of which the frames, the exchange, the transmitters and the engine's
changes of state are made, but for a change of the enable words. -/
structure Latching (P : State → Prop) : Prop where
  pending : ∀ {s} q, P s → P { s with pending := q }
  free : ∀ {s} n, P s → P (s.setFree n)
  time : ∀ {s} t, P s → P (s.setTiming { s.timing with timebase := t })
  links : ∀ {s} x, P s → P (s.setLinks x)
  words : ∀ {s} x, x.isNone = s.events.isNone → enablesOf x = enablesOf s.events → P s → P (s.setEvents x)
  outcome : ∀ {s} h c n, P s → P (s.setAuth { s.auth with holder := h, conflict := c, equalSeeds := n })
  reinit : ∀ {s} r, P s → P (s.setSeq { s.seq with reinit := r })
  op : ∀ {s} o c, P s → P (s.setStore { s.store with op := o, lastCompletion := c })
  waiting : ∀ {s} r, P s → P (s.setStore { s.store with readStoreWaiting := r })
  portFreed : ∀ {s}, P s → P (s.setStore { s.store with port := none })
  readsDropped : ∀ {s}, P s →
    P (s.setStore { s.store with readStoreWaiting := [], port := dropReadStore s.store.port })
  engineMoves : ∀ {s} x p c r, P s →
    P (s.setEngine { s.engine with state := x, previous := p, patternCounter := c, reportDue := r })
  setsApplied : ∀ {s}, P s → P (s.setEngine { s.engine with
    ms0 := s.engine.ms0.apply, ms1 := s.engine.ms1.apply, ms2 := s.engine.ms2.apply, ms3 := s.engine.ms3.apply })
  framesDiscarded : ∀ {s}, P s → P (s.setTiming (discardFrames s.timing))
  stayEnds : ∀ {s}, P s → P (s.setTiming { s.timing with frames := s.timing.frames.map Entry.endStay })

/-- A law that survives a change of the enable words too. -/
structure Robust (P : State → Prop) : Prop extends Latching P where
  events : ∀ {s} x, x.isNone = s.events.isNone → P s → P (s.setEvents x)
  words := fun x same _ law => events x same law

/-- A state without what the quiet effects may change. -/
def still (s : State) : State :=
  { s with
    pending := [], free := 0,
    seq := { s.seq with reinit := .idle },
    timing := { s.timing with timebase := 0, frames := [], skip := 0 },
    store := { s.store with op := none, lastCompletion := none, port := none, readStoreWaiting := [] },
    engine := { Engine.reset with heldCounts := s.engine.heldCounts, lastPrediction := s.engine.lastPrediction },
    links := ⟨.reset, .reset⟩,
    auth := { s.auth with holder := none, conflict := false, equalSeeds := 0 },
    events := none }

/-- A law that reads nothing of what `still` leaves out is robust. -/
theorem robust_of_blind {P : State → Prop} (blind : ∀ s, P (still s) ↔ P s) : Robust P := by
  have keeps : ∀ {s u}, P s → still u = still s → P u := fun law same => by rwa [← blind, same, blind]
  have latching : Latching P := by constructor <;> intros <;> rename_i law <;> exact keeps law rfl
  exact { latching with events := fun _ _ law => keeps law rfl }

namespace Latching

variable {P : State → Prop} (r : Latching P) {s : State} (law : P s)
include r law

/-! Time, events and transmitters. -/

theorem advanceTo (t : Instant) : P (advanceTo t s) := r.time _ law

theorem tick : P (tick s) := by
  unfold Machine.tick
  split
  · exact law
  · exact r.time _ law

theorem setLink (l : Link) (u : LinkUnit) : P (s.setLink l u) := r.links _ law

theorem raiseOn (l : Link) (e : Event) : P (raiseOn l e s) := by
  unfold Machine.raiseOn
  split
  · exact law
  · next held =>
    refine r.words _ (by simp [held]) ?_ law
    cases l <;> simp [enablesOf, held, EventUnit.latch, PerLink.set, PerLink.get]

theorem raise (e : Event) : P (raise e s) := r.raiseOn (r.raiseOn law _ _) _ _

theorem changeUnit (l : Link) (f : EventUnit → EventUnit) (same : ∀ u, (f u).enable = u.enable) :
    P (changeUnit l f s) := by
  refine r.words _ (by simp) ?_ law
  cases l <;> simp [enablesOf, Function.comp_def, PerLink.set, PerLink.get, same]

theorem raiseIf (b : Bool) (e : Event) : P (raiseIf b e s) := by
  unfold Machine.raiseIf
  split
  · exact r.raise law e
  · exact law

theorem settle : P (settle s) := by
  unfold Machine.settle
  split
  · exact law
  · next held => exact r.words _ (by simp [held]) (by rw [held]; rfl) law

theorem startTransmit (l : Link) : P (startTransmit l s) := by
  simp only [Machine.startTransmit]
  split
  case isTrue => exact law
  case isFalse =>
    split
    case h_1 => exact r.setLink law _ _
    case h_2 =>
      split
      case h_1 => exact r.setLink law _ _
      case h_2 =>
        split
        case isTrue => exact r.setLink law _ _
        case isFalse => exact law

theorem joinReply (l : Link) (k : Byte) (p : List Byte) : P (joinReply l k p s) :=
  r.startTransmit (r.setLink law _ _) _

theorem replyOk (l : Link) (k : Byte) (p : List Byte) : P (replyOk l k p s) := r.joinReply law _ _ _

theorem handRecord (l : Link) (f : TxFrame) : P (handRecord l f s) := r.startTransmit (r.setLink law _ _) _

theorem abilitySend (l : Link) (t : Instant) : P (abilitySend l t s) := r.startTransmit (r.setLink law _ _) _

theorem answerReadStore (p : List Byte) : P (answerReadStore p s) := r.startTransmit (r.setLink law _ _) _

theorem refuse (l : Link) (k : Byte) (c : Code) : P (refuse l k c s) := by
  unfold Machine.refuse
  split
  · exact r.setLink law _ _
  · exact r.joinReply law _ _ _

theorem frameEnds (l : Link) (t : Instant) : P (frameEnds l t s) := r.setLink (r.advanceTo law t) _ _

theorem received (l : Link) (t : Instant) : P (received l t s) := by
  rw [← rearmUp_frameEnds]
  exact r.setLink (r.frameEnds law l t) _ _

/-! The engine. -/

theorem leaveRunning : P (leaveRunning s) :=
  r.raiseIf (r.engineMoves _ _ _ _ (r.setsApplied (r.framesDiscarded law))) _ _

theorem enterRunning : P (enterRunning s) := r.engineMoves _ _ _ _ law

theorem enterPattern : P (enterPattern s) := r.engineMoves _ _ _ _ (r.stayEnds law)

theorem enterSelected : P (enterSelected s) := by
  unfold Machine.enterSelected
  split
  · exact r.enterPattern law
  · exact r.enterRunning law

theorem stopIfNeeded : P (stopIfNeeded s) := by
  unfold Machine.stopIfNeeded
  split
  · exact r.leaveRunning law
  · exact law

theorem followConfiguration : P (followConfiguration s) := by
  unfold Machine.followConfiguration
  split
  case h_1 =>
    split
    case isTrue => exact r.engineMoves _ _ _ _ law
    case isFalse => exact law
  case h_2 =>
    split
    case isTrue => exact law
    case isFalse => exact r.engineMoves _ _ _ _ law
  all_goals exact law

theorem startIfReady : P (startIfReady s) := by
  unfold Machine.startIfReady
  split
  · exact r.enterSelected law
  · exact law

theorem reevaluate : P (reevaluate s) := r.startIfReady (r.followConfiguration (r.stopIfNeeded law))

theorem followSelection : P (followSelection s) := by
  unfold Machine.followSelection
  repeat' split
  · exact r.enterPattern law
  · exact law
  · exact law
  · exact r.enterRunning law
  all_goals exact law

theorem completeOp (o : StoreOp) (x : OpResult) : P (completeOp o x s) :=
  r.reevaluate (r.raise (r.op _ _ law) _)

/-! The exchange. -/

theorem setHolder (h : Option Link) (c : Bool) (n : Nat) : P (setHolder h c n s) := r.raiseIf (r.outcome _ _ _ law) _ _

theorem enterSilent (l : Link) : P (enterSilent l s) := r.abilitySend (r.setLink law _ _) _ _

theorem enterDetect (l : Link) (n : Nat) (w : Option MasterWord) : P (enterDetect l n w s) :=
  r.abilitySend (r.setLink law _ _) _ _

theorem countWord (l : Link) (w : MasterWord) : P (countWord l w s) := by
  simp only [Machine.countWord]
  repeat' split
  · exact r.abilitySend (r.setLink law _ _) _ _
  · exact r.setLink law _ _
  · exact r.abilitySend (r.setLink law _ _) _ _
  · exact r.setLink law _ _

theorem dropUp (l : Link) : P (dropUp l s) := by
  have dropped : P (dropReinitReply l s) := by
    unfold dropReinitReply
    split
    · exact r.reinit _ law
    · exact law
  simp only [Machine.dropUp]
  apply r.raiseOn
  cases l with
  | body => exact r.setLink dropped _ _
  | accessory => exact r.engineMoves _ _ _ _ (r.readsDropped (r.setLink dropped _ _))

theorem equalSeedRestart (n : Nat) : P (equalSeedRestart n s) := by
  unfold Machine.equalSeedRestart
  have down := r.setHolder (r.dropUp (r.dropUp law .body) .accessory) none false n
  exact r.enterDetect (r.enterDetect (r.reevaluate down) _ _ _) _ _ _

theorem resolveAuthority : P (resolveAuthority s) := by
  simp only [Machine.resolveAuthority]
  split
  · exact r.setHolder law _ _ _
  · exact r.setHolder law _ _ _
  · split
    · exact r.equalSeedRestart law _
    · exact r.setHolder law _ _ _

theorem leaveUp (l : Link) : P (leaveUp l s) := r.reevaluate (r.resolveAuthority (r.dropUp law l))

theorem enterUp (l : Link) : P (enterUp l s) := by
  simp only [Machine.enterUp]
  have resolved := r.resolveAuthority (r.raiseOn (r.setLink law l { s.link l with
    state := .up, sendDue := none, abilityWaiting := false, timeout := some (addInterval s.now 250000),
    recordLevel := fixedLevel l (s.link l) }) (otherLink l) .peerLinkChanged)
  split
  · exact r.reevaluate resolved
  · unfold startReports
    split
    · exact r.engineMoves _ _ _ _ resolved
    · exact resolved

theorem receiveWord (l : Link) (w : MasterWord) : P (receiveWord l w s) := by
  unfold Machine.receiveWord
  split
  · exact r.enterDetect law _ _ _
  · exact r.countWord law _ _
  · simp only [settleWord]
    repeat' split
    · exact r.enterUp law _
    · exact r.setLink law _ _
    · exact r.enterDetect law _ _ _
  · exact r.enterDetect (r.leaveUp law _) _ _ _

theorem rejectWord (l : Link) : P (rejectWord l s) := by
  unfold Machine.rejectWord
  split
  · exact r.raiseOn (r.setLink law _ _) _ _
  · exact r.raiseOn law _ _

theorem afterTransmit (l : Link) (f : TxFrame) : P (afterTransmit l f s) := by
  unfold Machine.afterTransmit
  repeat' split
  · exact r.reinit _ law
  · exact r.setLink law _ _
  · exact r.startTransmit law _

theorem dismissReads : P (dismissReads s) := by
  unfold Machine.dismissReads
  exact nat_repeat_keeps (P := P) (fun u law => r.answerReadStore law _) _ (r.waiting _ law)

theorem startOp (l : Link) (x : StoreOpName) (n : Option (BitVec 3)) (p : Option (BitVec 8)) :
    P (startOp l x n p s) :=
  r.joinReply (r.dismissReads (r.op _ _ law)) _ _ _

theorem modifyEvents (l : Link) (mask : EventWord) : P (modifyEvents l mask s) := by
  unfold Machine.modifyEvents
  refine r.replyOk ?_ _ _ _
  exact r.changeUnit law l (fun u => { u with pending := clearedWord (levelWord s) mask u.pending }) fun _ => rfl

theorem endRead (t : Instant) (n : Nat) : P (endRead t n s) := r.portFreed (r.advanceTo law _)

end Latching

theorem Latching.handOver {P : State → Prop} (r : Latching P) (e : Entry) (d : Delivered) {rest : List Entry}
    {s : State}
    (left : P (s.setTiming { s.timing with frames := rest })) : P (handOver e d rest s) := by
  refine r.raiseIf (r.raiseIf ?_ _ _) _ _
  unfold sendFrameReport
  split
  · exact r.handRecord (r.handRecord left _ _) _ _
  · exact r.handRecord left _ _

theorem Latching.writeMode {P : State → Prop} (r : Latching P) (l : Link) {p : List Byte} {s : State}
    (written : P (s.setEngine (writeSet s.engine.state.runs p s.engine))) : P (writeMode l p s) := by
  refine r.replyOk ?_ _ _ _
  split
  · exact written
  · exact r.reevaluate written

/-- A quiet effect keeps every law that only a change of the enable words may break, when that change keeps it. -/
theorem Latching.quiet {P : State → Prop} (r : Latching P) {s u : State} (law : P s) (change : Quiet s u)
    (enables : ∀ l t word, Serves l s → P (setEnables l word (Machine.received l t s))) : P u := by
  cases change with
  | nothing => exact law
  | timePasses t => exact r.advanceTo law t
  | frameEnds l t => exact r.frameEnds law l t
  | frameGoesOn l t bytes => exact r.setLink (r.advanceTo law t) _ _
  | frameAbandoned l t => exact r.raiseOn (r.frameEnds law l t) _ _
  | requestDiscarded l t => exact r.received law l t
  | replyListFull l t => exact r.raiseOn (r.received law l t) _ _
  | refused l t k c => exact r.refuse (r.received law l t) _ _ _
  | answered l t k p => exact r.joinReply (r.received law l t) _ _ _
  | statusAnswered l t p n => exact r.replyOk (r.free _ (r.received law l t)) _ _ _
  | eventsModified l t mask => exact r.modifyEvents (r.received law l t) l mask
  | enablesSet l t word serves => exact enables l t word serves
  | reinitializeTaken l t => exact r.replyOk (r.reinit _ (r.received law l t)) _ _ _
  | operationTaken l t => exact r.startOp (r.received law l t) _ _ _ _
  | readStoreTaken t => exact r.waiting _ (r.received law _ t)
  | wordRejected l t => exact r.rejectWord (r.frameEnds law l t) l
  | wordReceived l t w => exact r.receiveWord (r.frameEnds law l t) l w
  | abilityDue l due next => exact r.abilitySend (r.advanceTo law due) l next
  | detectEnds l due => exact r.enterSilent (r.setLink (r.advanceTo law due) _ _) l
  | acknowledgeEnds l due => exact r.enterSilent (r.setLink (r.advanceTo law due) _ _) l
  | upEnds l due => exact r.enterSilent (r.leaveUp (r.advanceTo law due) l) l
  | frameSent l t f => exact r.afterTransmit (r.setLink (r.advanceTo law t) _ _) l f
  | reportDue due => exact r.handRecord (r.engineMoves _ _ _ _ (r.advanceTo law due)) _ _
  | renegotiated l => exact r.enterDetect (r.leaveUp law l) _ _ _
  | droppedReadEnds => exact r.endRead law _ _
  | readStoreEnds => exact r.answerReadStore (r.endRead law _ _) _

/-- A quiet effect keeps every robust law. -/
theorem Robust.quiet {P : State → Prop} (r : Robust P) {s u : State} (law : P s) (change : Quiet s u) : P u :=
  r.toLatching.quiet law change fun l t _ _ => r.replyOk (r.events _ (by simp) (r.received law l t)) _ _ _

/-- A robust law that a reset and every effect keep is kept by every step. -/
theorem Robust.step_keeps {P : State → Prop} (r : Robust P) (reset : ∀ b s, P s → P (holdInReset b s))
    (effect : ∀ s u, P s → Effect s u → P u) : ∀ s t, P s → step s = .next t → P t :=
  Machine.step_keeps (fun _ q law => r.pending q law) (fun _ law => r.tick law) reset
    fun s u law change => r.settle (effect s u law change)

/-- A mark set or deleted leaves the cache as it is or releases the path: every entry unlocked, the walk ended and its
read on the port discarded (R99). -/
theorem markChanged_snd (id : Nat) (s : State) : (markChanged id s).2 = s ∨
    (markChanged id s).2 = (s.setCache { unlockAll s.cache with
      walk := { s.cache.walk with state := .abandoned, rest := [] } }).setStore
        { s.store with port := dropWalkRead s.store.port } := by
  simp only [markChanged]
  cases ends : s.cache.walk.ends with
  | none => exact .inl rfl
  | some x =>
    dsimp only
    split
    · exact .inr rfl
    · exact .inl rfl

/-! ### Laws of frame timing and the engine -/

/-- The end of start-up before the engine looks at it: finished, with the anchor. -/
def anchored (s : State) : State :=
  (setPhase .finished s).setAuth { s.auth with anchor := (s.store.description.map Description.defaultAnchor).getD 0 }

/-- The part is out of reset in every phase but the held one. -/
theorem isHeld_of_phase {x : Phase} {s : State} (phase : s.seq.phase = x) (out : ∀ b, x ≠ .held b) :
    s.isHeld = false := by
  unfold State.isHeld
  split
  · next b held => exact absurd (phase.symm.trans held) (out b)
  · rfl

theorem isHeld_of_same_phase {s u : State} (phase : u.seq.phase = s.seq.phase) : u.isHeld = s.isHeld := by
  unfold State.isHeld
  rw [phase]

@[simp] theorem isHeld_scanResults (s : State) : (scanResults s).isHeld = s.isHeld :=
  isHeld_of_same_phase (by simp)

@[simp] theorem isHeld_failBits (n : Nat) (s : State) : (failBits n s).isHeld = s.isHeld :=
  isHeld_of_same_phase (by simp [failBits])

@[simp] theorem isHeld_advanceTo (t : Instant) (s : State) : (advanceTo t s).isHeld = s.isHeld := rfl

/-- A robust law that reads nothing but frame timing, the engine and whether the part is held in reset. -/
structure OfTiming (P : State → Prop) : Prop extends Robust P where
  seq : ∀ {s} x, (s.setSeq x).isHeld = s.isHeld → P s → P (s.setSeq x)
  front : ∀ {s} x, P s → P (s.setFront x)
  store : ∀ {s} x, P s → P (s.setStore x)
  cache : ∀ {s} x, P s → P (s.setCache x)
  auth : ∀ {s} x, P s → P (s.setAuth x)

namespace OfTiming

variable {P : State → Prop} (r : OfTiming P) {s : State} (law : P s)
include r law

theorem invalidateKind (k : TableKind) : P (invalidateKind k s) := by
  simp only [Machine.invalidateKind]
  split
  · exact r.store _ (r.cache _ law)
  · exact r.cache _ law

theorem withdrawKind (k : TableKind) (n : BitVec 3) : P (withdrawKind k n s) := by
  unfold Machine.withdrawKind
  split
  case h_1 =>
    split
    case isTrue => exact r.invalidateKind (r.store _ law) k
    case isFalse => exact law
  case h_2 => exact law

theorem beginOnSector (n : BitVec 3) : P (beginOnSector n s) := by
  have withdrawn := r.withdrawKind (r.withdrawKind (r.store { s.store with
    verdicts := s.store.verdicts.set n.toNat .unscanned } law) .breathing n) .shading n
  simp only [Machine.beginOnSector]
  split
  · exact r.reevaluate (r.front _ (r.store _ withdrawn))
  · exact withdrawn

theorem scanKind (k : TableKind) : P (scanKind k s) := by
  simp only [Machine.scanKind]
  split
  · exact r.invalidateKind (r.store _ law) k
  · exact r.store _ law

theorem scanResults : P (scanResults s) := by
  unfold Machine.scanResults
  refine r.scanKind (r.scanKind ?_ _) _
  unfold scanSector0
  dsimp only
  split
  · exact r.front _ (r.store _ (r.store _ law))
  · exact r.front _ (r.store _ (r.store _ law))

theorem failBits (n : Nat) : P (failBits n s) := r.seq _ rfl law

theorem setPhase (x : Phase) (out : s.isHeld = false) (other : ∀ b, x ≠ .held b) : P (setPhase x s) :=
  r.seq _ ((isHeld_of_phase rfl other).trans out.symm) law

theorem endStartup (held : s.isHeld = false) : P (endStartup s) := by
  have finished : P (anchored s) := r.auth _ (r.setPhase law .finished held nofun)
  exact r.abilitySend (r.abilitySend (r.front _ (r.reevaluate finished)) _ _) _ _

theorem walkAdvance : P (walkAdvance s) := by
  simp only [Machine.walkAdvance]
  split
  · exact law
  · exact r.raiseIf (r.cache _ law) _ _

theorem markChanged (id : Nat) : P (markChanged id s).2 := by
  rcases markChanged_snd id s with same | released
  · rw [same]
    exact law
  · rw [released]
    exact r.store _ (r.cache _ law)

theorem startSource (x : PortSource) : P (startSource x s) := by
  unfold Machine.startSource
  cases x with
  | readStore => exact r.store _ (r.store _ law)
  | walk =>
    dsimp only
    split
    · exact r.store _ law
    · exact law
  | demand | prefetch =>
    dsimp only
    split
    · exact r.store _ (r.cache _ law)
    · exact law

theorem finishWalkRead (k : Key) (c : Cell) (g : Nat) (d : Bool) : P (finishWalkRead k c g d s) := by
  simp only [Machine.finishWalkRead]
  split
  · exact law
  · exact r.walkAdvance (r.cache _ law)

theorem beginWork (o : StoreOp) : P (beginWork o s) := by
  have begun := r.op (some { o with working := some s.now }) s.store.lastCompletion law
  simp only [Machine.beginWork]
  split
  · exact r.beginOnSector begun _
  · exact begun

theorem finishErase (o : StoreOp) (n : BitVec 3) : P (finishErase o n s) := r.completeOp (r.store _ law) _ _

theorem finishProgram (o : StoreOp) (n : BitVec 3) (p : BitVec 8) : P (finishProgram o n p s) :=
  r.completeOp (r.store _ law) _ _

theorem finishProtect (o : StoreOp) : P (finishProtect o s) := by
  unfold Machine.finishProtect
  exact r.completeOp (r.store _ law) _ _

theorem finishClearSector (o : StoreOp) (n : BitVec 3) : P (finishClearSector o n s) := by
  simp only [Machine.finishClearSector]
  split
  · exact r.completeOp (r.store _ (r.store _ law)) _ _
  · exact r.beginOnSector (r.store _ (r.store _ law)) _

end OfTiming

/-- An effect apart from frame timing and the engine keeps every law that reads them alone. -/
theorem OfTiming.apart {P : State → Prop} (r : OfTiming P) {s u : State} (law : P s) (change : Apart s u) : P u := by
  cases change with
  | anchorSet l t => exact r.replyOk (r.auth _ (r.received law l t)) _ _ _
  | anchorTaken l t =>
    unfold anchorHere
    split
    · exact r.received law l t
    · exact r.replyOk (r.auth _ (r.received law l t)) _ _ _
  | markSet l t => exact r.replyOk (r.markChanged (r.auth _ (r.received law l t)) _) _ _ _
  | markDeleted l t =>
    unfold deleteMark
    split
    · exact r.replyOk (r.received law l t) _ _ _
    · exact r.replyOk (r.markChanged (r.auth _ (r.received law l t)) _) _ _ _
  | pathLocked l t => exact r.walkAdvance (r.replyOk (r.store _ (r.cache _ (r.received law l t))) _ _ _)
  | pathUnlocked l t => exact r.replyOk (r.store _ (r.cache _ (r.received law l t))) _ _ _
  | pageLoaded l t => exact r.replyOk (r.store _ (r.received law l t)) _ _ _
  | programTaken l t | eraseTaken l t => exact r.beginOnSector (r.startOp (r.received law l t) _ _ _ _) _
  | ramChecked _ t _ _ _ _ phase =>
    have out := isHeld_of_phase phase nofun
    exact r.setPhase (r.cache _ (r.failBits (r.advanceTo law t) _)) _ (by simpa using out) nofun
  | attemptBegins _ next _ _ phase =>
    have out := isHeld_of_phase phase nofun
    exact r.setPhase (r.advanceTo law next) _ (by simpa using out) nofun
  | attemptEnds _ t _ _ phase =>
    have out := isHeld_of_phase phase nofun
    unfold afterEncoderRead
    split
    · exact r.setPhase (r.advanceTo law t) _ (by simpa using out) nofun
    · exact r.setPhase (r.failBits (r.advanceTo law t) _) _ (by simpa using out) nofun
  | markerRead _ _ t phase =>
    have out := isHeld_of_phase phase nofun
    exact r.setPhase (r.store _ (r.advanceTo law t)) _ (by simpa using out) nofun
  | startScanEnds _ t reinit phase =>
    have out := isHeld_of_phase phase nofun
    have held : (Machine.scanResults (Machine.advanceTo t s)).isHeld = false := by simpa using out
    have scanned := r.scanResults (r.advanceTo law t)
    split
    · exact r.endStartup scanned held
    · exact r.endStartup (r.failBits scanned _) (by simpa using held)
  | rescanEnds o t => exact r.completeOp (r.scanResults (r.advanceTo law t)) _ _
  | samplingBegins t => exact r.front _ (r.advanceTo law t)
  | sampleFiled a t x =>
    unfold applySample noteConversion
    dsimp only
    split
    · split
      · exact r.front _ (r.advanceTo law t)
      · exact r.raiseIf (r.front _ (r.front _ (r.advanceTo law t))) _ _
    · exact r.front _ (r.advanceTo law t)
  | portReads x => exact r.startSource law x
  | walkReadEnds k c g d since => exact r.finishWalkRead (r.endRead law since 24) k c g d
  | workBegins o => exact r.beginWork law o
  | eraseEnds o n t => exact r.finishErase (r.advanceTo law t) o n
  | programEnds o n p t => exact r.finishProgram (r.advanceTo law t) o n p
  | protectEnds o t => exact r.finishProtect (r.advanceTo law t) o
  | clearSectorEnds o n t => exact r.finishClearSector (r.advanceTo law t) o n

end Sys2Proof.Machine
end

section
/-! PROOF. The laws of the table store, the marks, the focus powers, the stream and the axes: each is robust, and each
effect that touches what it speaks of keeps it. -/

namespace Sys2Proof.Machine

/-! ### The table store -/

/-- What the store's law reads. -/
def storeView (s : State) : List Host.Cell × List Byte × List Verdict × List (Option HeaderRead) :=
  (s.store.flash, s.store.pageBuffer, s.store.verdicts, s.store.headers)

theorem StoreLaw.of_view {s u : State} (law : StoreLaw s) (same : storeView u = storeView s) : StoreLaw u := by
  simp only [storeView, Prod.mk.injEq] at same
  obtain ⟨flash, buffer, verdicts, headers⟩ := same
  unfold StoreLaw
  rw [flash, buffer, verdicts, headers]
  exact law

theorem storeView_of_store {s u : State} (same : u.store = s.store) : storeView u = storeView s := by
  simp [storeView, same]

theorem robust_storeLaw : Robust StoreLaw := robust_of_blind fun _ => Iff.rfl

@[simp] theorem storeView_invalidateKind (k : TableKind) (s : State) :
    storeView (invalidateKind k s) = storeView s := by
  simp only [invalidateKind]
  split <;> rfl

@[simp] theorem storeView_markChanged (id : Nat) (s : State) : storeView (markChanged id s).2 = storeView s := by
  rcases markChanged_snd id s with same | released
  · rw [same]
  · rw [released]; rfl

@[simp] theorem storeView_withdrawKind (k : TableKind) (n : BitVec 3) (s : State) :
    storeView (withdrawKind k n s) = storeView s := by
  unfold withdrawKind
  split
  case h_1 =>
    split
    case isTrue => rw [storeView_invalidateKind]; cases k <;> rfl
    case isFalse => rfl
  case h_2 => rfl

@[simp] theorem storeView_scanKind (k : TableKind) (s : State) : storeView (scanKind k s) = storeView s := by
  simp only [scanKind]
  split
  · rw [storeView_invalidateKind]; cases k <;> rfl
  · cases k <;> rfl

@[simp] theorem storeView_startSource (x : PortSource) (s : State) : storeView (startSource x s) = storeView s := by
  unfold startSource
  cases x with
  | readStore r => rfl
  | demand k | walk k | prefetch k => dsimp only; split <;> rfl

theorem storeLaw_beginOnSector (n : BitVec 3) {s : State} (law : StoreLaw s) : StoreLaw (beginOnSector n s) := by
  have marked : StoreLaw (s.setStore { s.store with verdicts := s.store.verdicts.set n.toNat .unscanned }) := by
    obtain ⟨flash, buffer, verdicts, headers⟩ := law
    exact ⟨flash, buffer, by simpa using verdicts, headers⟩
  have withdrawn := marked.of_view (storeView_withdrawKind .breathing n _)
  have withdrawn := withdrawn.of_view (storeView_withdrawKind .shading n _)
  simp only [beginOnSector]
  split
  · exact robust_storeLaw.reevaluate withdrawn
  · exact withdrawn

theorem storeLaw_setFlash {m : List Host.Cell} {s : State} (wf : flashWf m = true) (law : StoreLaw s) :
    StoreLaw (setFlash m s) := ⟨wf, law.2⟩

theorem storeLaw_scanResults {s : State} (law : StoreLaw s) : StoreLaw (scanResults s) := by
  obtain ⟨flash, buffer, -, -⟩ := law
  have scanned : StoreLaw (scanSector0 (s.setStore { s.store with
      verdicts := scanVerdicts s.store.flash,
      headers := tableSectors.map fun n => some (headerAt s.store.flash n) })) := by
    unfold scanSector0
    dsimp only
    split <;> exact ⟨flash, buffer, rfl, rfl⟩
  exact scanned.of_view (by simp [scanResults])

theorem storeLaw_endStartup {s : State} (law : StoreLaw s) : StoreLaw (endStartup s) := by
  unfold endStartup
  refine robust_storeLaw.abilitySend (robust_storeLaw.abilitySend ?_ _ _) _ _
  refine StoreLaw.of_view ?_ (storeView_of_store (store_setFront _ _))
  exact robust_storeLaw.reevaluate law

theorem length_loadBuffer {offset : Nat} {data buffer : List Byte} (length : buffer.length = 256)
    (fits : offset + data.length ≤ 256) : (loadBuffer offset data buffer).length = 256 := by
  simp only [loadBuffer, List.length_append, List.length_take, List.length_drop, length]
  omega

theorem storeLaw_loadPage {l : Link} {p : List Byte} {s : State} (fits : byteAt p 0 + (p.length - 1) ≤ 256)
    (law : StoreLaw s) : StoreLaw (loadPage l p s) := by
  obtain ⟨flash, buffer, lists⟩ := law
  refine robust_storeLaw.replyOk ?_ _ _ _
  exact ⟨flash, length_loadBuffer buffer (by simpa using fits), lists⟩

theorem length_erasedPage : erasedPage.length = 256 := List.length_replicate

theorem length_markerPattern : markerPattern.length = 16 := rfl

theorem markerBase_le : markerBase + 16 ≤ flashSize := by decide

theorem storeLaw_finishErase (o : StoreOp) (n : BitVec 3) {s : State} (law : StoreLaw s) :
    StoreLaw (finishErase o n s) :=
  robust_storeLaw.completeOp (storeLaw_setFlash (flashErase_wf _ _ law.1) law) _ _

theorem storeLaw_finishProgram (o : StoreOp) (n : BitVec 3) (p : BitVec 8) {s : State} (law : StoreLaw s) :
    StoreLaw (finishProgram o n p s) := by
  obtain ⟨flash, buffer, lists⟩ := law
  have wf : flashWf (flashProgram s.store.flash (pageBase n p) s.store.pageBuffer) = true :=
    flashProgram_wf flash (by
      rw [buffer]
      exact (pageBase_le n p).2.trans (sectorBase_le n))
  refine robust_storeLaw.completeOp ?_ _ _
  exact ⟨wf, length_erasedPage, lists⟩

theorem storeLaw_finishProtect (o : StoreOp) {s : State} (law : StoreLaw s) : StoreLaw (finishProtect o s) := by
  have wf : flashWf (flashProgram s.store.flash markerBase markerPattern) = true :=
    flashProgram_wf law.1 (by rw [length_markerPattern]; exact markerBase_le)
  unfold finishProtect
  refine robust_storeLaw.completeOp ?_ _ _
  exact ⟨wf, law.2⟩

theorem storeLaw_finishClearSector (o : StoreOp) (n : BitVec 3) {s : State} (law : StoreLaw s) :
    StoreLaw (finishClearSector o n s) := by
  have erased : StoreLaw (setFlash (flashErase s.store.flash (sectorBase n) sectorSize) s) :=
    storeLaw_setFlash (flashErase_wf _ _ law.1) law
  simp only [finishClearSector]
  split
  · refine robust_storeLaw.completeOp ?_ _ _
    exact erased
  · refine storeLaw_beginOnSector _ ?_
    exact erased

theorem storeLaw_reset {m : List Host.Cell} {b : List Byte} (p : Bool) {s : State} (store : s.store = .reset m b p)
    (wf : flashWf m = true) (buffer : b.length = 256) : StoreLaw s := by
  unfold StoreLaw
  rw [store]
  exact ⟨wf, buffer, rfl, rfl⟩

theorem storeLaw_beginWork (o : StoreOp) {s : State} (law : StoreLaw s) : StoreLaw (beginWork o s) := by
  have begun := robust_storeLaw.op (some { o with working := some s.now }) s.store.lastCompletion law
  simp only [beginWork]
  split
  · exact storeLaw_beginOnSector _ begun
  · exact begun

theorem storeLaw_of_apart {s u : State} (law : StoreLaw s) (change : Apart s u) : StoreLaw u := by
  have r := robust_storeLaw
  cases change with
  | pageLoaded l t p _ _ fits => exact storeLaw_loadPage fits (r.received law l t)
  | programTaken l t | eraseTaken l t => exact storeLaw_beginOnSector _ (r.startOp (r.received law l t) _ _ _ _)
  | startScanEnds since t reinit =>
    have scanned := storeLaw_scanResults (r.advanceTo law t)
    refine storeLaw_endStartup ?_
    split
    · exact scanned
    · exact scanned.of_view (storeView_of_store (by simp))
  | rescanEnds o t => exact r.completeOp (storeLaw_scanResults (r.advanceTo law t)) _ _
  | workBegins o => exact storeLaw_beginWork o law
  | eraseEnds o n t => exact storeLaw_finishErase o n (r.advanceTo law t)
  | programEnds o n p t => exact storeLaw_finishProgram o n p (r.advanceTo law t)
  | protectEnds o t => exact storeLaw_finishProtect o (r.advanceTo law t)
  | clearSectorEnds o n t => exact storeLaw_finishClearSector o n (r.advanceTo law t)
  | markSet l t p =>
    refine r.replyOk (StoreLaw.of_view ?_ (storeView_markChanged _ _)) _ _ _
    exact r.received law l t
  | markDeleted l t id =>
    unfold deleteMark
    split
    · exact r.replyOk (r.received law l t) _ _ _
    · refine r.replyOk (StoreLaw.of_view ?_ (storeView_markChanged _ _)) _ _ _
      exact r.received law l t
  | portReads x => exact law.of_view (storeView_startSource x s)
  | walkReadEnds k cell g dropped since =>
    have same : (finishWalkRead k cell g dropped (endRead since 24 s)).store = (endRead since 24 s).store := by simp
    exact (r.endRead law since 24).of_view (storeView_of_store same)
  | _ => exact law.of_view (by simp [storeView, lockPath, unlockPath])

theorem storeLaw_of_effect (s u : State) (law : StoreLaw s) (effect : Effect s u) : StoreLaw u := by
  have r := robust_storeLaw
  cases effect with
  | quiet change => exact r.quiet law change
  | apart change => exact storeLaw_of_apart law change
  | reinitialized =>
    obtain ⟨flash, buffer, -⟩ := law
    exact storeLaw_reset _ rfl flash buffer
  | resetLeft => exact storeLaw_reset _ rfl law.1 length_erasedPage
  | fillEnds k cell since =>
    have same : (finishFill k cell (endRead since 24 s)).store = (endRead since 24 s).store := by simp
    exact (r.endRead law since 24).of_view (storeView_of_store same)
  | _ => exact law.of_view (storeView_of_store (by simp))

/-- Settles O6: every effect that changes the flash keeps it in canonical form, and none changes a list's length. -/
theorem stepKeepsStoreLaw : Obligations.StepKeepsStoreLaw :=
  robust_storeLaw.step_keeps (fun _ _ law => storeLaw_reset _ rfl
      (cutOffFlash_wf law.1) length_erasedPage) storeLaw_of_effect

end Sys2Proof.Machine
end

section
/-! PROOF. The laws of the marks, the focus powers and the stream. -/

namespace Sys2Proof.Machine

/-! ### The marks (R170 to R172) -/

/-- The law of the marks list. -/
def MarksOrdered (marks : List Mark) : Prop :=
  marks.Pairwise (fun a b => markBefore a b = true) ∧ (marks.map Mark.id).Nodup ∧
    ∀ m ∈ marks, m.id ≤ 7 ∧ m.label.length ≤ 8

theorem marksLaw_iff (s : State) : MarksLaw s ↔ MarksOrdered s.auth.marks := Iff.rfl

theorem marksOrdered_nil : MarksOrdered [] := ⟨.nil, .nil, by simp⟩

theorem markBefore_iff (a b : Mark) : markBefore a b = true ↔ a.power < b.power ∨ a.power = b.power ∧ a.id < b.id := by
  simp [markBefore]

theorem markBefore_trans {a b c : Mark} (ab : markBefore a b = true) (bc : markBefore b c = true) :
    markBefore a c = true := by
  rw [markBefore_iff] at *
  omega

theorem markBefore_of_not {a b : Mark} (ids : a.id ≠ b.id) (not : ¬markBefore a b = true) : markBefore b a = true := by
  rw [markBefore_iff] at *
  omega

theorem mem_insertMark {m x : Mark} {marks : List Mark} : x ∈ insertMark m marks ↔ x = m ∨ x ∈ marks := by
  induction marks with
  | nil => simp [insertMark]
  | cons y ys ih =>
    unfold insertMark
    split
    · simp
    · simp only [List.mem_cons, ih]
      tauto

theorem insertMark_perm (m : Mark) (marks : List Mark) : (insertMark m marks).Perm (m :: marks) := by
  induction marks with
  | nil => rfl
  | cons y ys ih =>
    unfold insertMark
    split
    · rfl
    · exact (ih.cons y).trans (.swap m y ys)

theorem pairwise_insertMark {m : Mark} {marks : List Mark} (ordered : marks.Pairwise fun a b => markBefore a b = true)
    (fresh : ∀ x ∈ marks, x.id ≠ m.id) : (insertMark m marks).Pairwise fun a b => markBefore a b = true := by
  induction marks with
  | nil => simp [insertMark]
  | cons y ys ih =>
    obtain ⟨first, rest⟩ := List.pairwise_cons.1 ordered
    unfold insertMark
    split
    case isTrue before =>
      refine List.pairwise_cons.2 ⟨fun x mem => ?_, ordered⟩
      rcases List.mem_cons.1 mem with rfl | mem
      · exact before
      · exact markBefore_trans before (first x mem)
    case isFalse after =>
      have later : markBefore y m = true := markBefore_of_not (fresh y (by simp)).symm after
      refine List.pairwise_cons.2 ⟨fun x mem => ?_, ih rest fun x mem => fresh x (by simp [mem])⟩
      rcases mem_insertMark.1 mem with rfl | mem
      · exact later
      · exact first x mem

theorem mem_removeMark {id : Nat} {x : Mark} {marks : List Mark} : x ∈ removeMark id marks ↔ x ∈ marks ∧ x.id ≠ id := by
  simp [removeMark]

theorem marksOrdered_removeMark (id : Nat) {marks : List Mark} (law : MarksOrdered marks) :
    MarksOrdered (removeMark id marks) := by
  obtain ⟨ordered, ids, fields⟩ := law
  exact ⟨ordered.filter _, ids.sublist (List.filter_sublist.map _), fun m mem => fields m (mem_removeMark.1 mem).1⟩

theorem marksOrdered_insertMark {m : Mark} {marks : List Mark} (law : MarksOrdered marks)
    (fresh : ∀ x ∈ marks, x.id ≠ m.id) (id : m.id ≤ 7) (label : m.label.length ≤ 8) :
    MarksOrdered (insertMark m marks) := by
  obtain ⟨ordered, ids, fields⟩ := law
  refine ⟨pairwise_insertMark ordered fresh, ?_, fun x mem => ?_⟩
  · rw [((insertMark_perm m marks).map Mark.id).nodup_iff, List.map_cons, List.nodup_cons]
    refine ⟨fun mem => ?_, ids⟩
    obtain ⟨x, mem, same⟩ := List.mem_map.1 mem
    exact fresh x mem same
  · rcases mem_insertMark.1 mem with rfl | mem
    · exact ⟨id, label⟩
    · exact fields x mem

theorem length_textOf_le (field : List Byte) : (textOf field).length ≤ field.length := by
  induction field with
  | nil => simp [textOf]
  | cons b bs ih =>
    unfold textOf
    split <;> simp only [List.length_nil, List.length_cons] <;> omega

theorem length_label_of_findMark {id : Nat} {marks : List Mark} (law : MarksOrdered marks) :
    (((findMark id marks).map Mark.label).getD []).length ≤ 8 := by
  cases found : findMark id marks with
  | none => simp
  | some m =>
    obtain ⟨-, -, marks⟩ := law
    exact (marks m (List.mem_of_find?_eq_some found)).2

theorem length_newLabel {p : List Byte} {id : Nat} {marks : List Mark} (length : markLengthOk p = true)
    (law : MarksOrdered marks) : (newLabel (labelPart p) (findMark id marks)).length ≤ 8 := by
  unfold labelPart newLabel
  simp only [markLengthOk, Bool.and_eq_true, decide_eq_true_eq] at length
  split
  case h_2 => exact length_label_of_findMark law
  case h_1 label part =>
    split at part
    case isTrue => cases part
    case isFalse none =>
      cases part
      simp only [none, if_false, Bool.and_eq_true, decide_eq_true_eq, beq_iff_eq] at length
      have longest := length_textOf_le (p.drop 4)
      rw [List.length_drop] at longest
      omega

theorem marksOrdered_placeMark {p : List Byte} {id power : Nat} {marks : List Mark} (law : MarksOrdered marks)
    (length : markLengthOk p = true) (known : id ≤ 7) : MarksOrdered (placeMark id power (labelPart p) marks) :=
  marksOrdered_insertMark (marksOrdered_removeMark id law) (fun _ mem => (mem_removeMark.1 mem).2) known
    (length_newLabel length law)

theorem auth_setMark (l : Link) (p : List Byte) (s : State) : (setMark l p s).auth =
    { s.auth with marks := placeMark (byteAt p 0) (markPower p s) (labelPart p) s.auth.marks } := by
  simp [setMark]

theorem auth_deleteMark (l : Link) (id : Nat) (s : State) : (deleteMark l id s).auth =
    { s.auth with marks := removeMark id s.auth.marks } := by
  unfold deleteMark
  split
  case h_1 missing =>
    have absent : removeMark id s.auth.marks = s.auth.marks :=
      List.filter_eq_self.2 (by simpa [findMark] using missing)
    simp [absent]
  case h_2 => simp

theorem marks_setAnchor (l : Link) (power : Nat) (s : State) : (setAnchor l power s).auth.marks = s.auth.marks := by
  simp [setAnchor]

theorem marks_anchorHere (l : Link) (s : State) : (anchorHere l s).auth.marks = s.auth.marks := by
  unfold anchorHere
  split <;> simp

theorem marks_reevaluate (s : State) : (reevaluate s).auth.marks = s.auth.marks := by simp

theorem marks_endStartup (s : State) : (endStartup s).auth.marks = s.auth.marks := by simp [endStartup]

theorem robust_marksLaw : Robust MarksLaw := robust_of_blind fun _ => Iff.rfl

theorem marksLaw_of_marks {s u : State} (law : MarksLaw s) (same : u.auth.marks = s.auth.marks) : MarksLaw u := by
  rw [marksLaw_iff, same]
  exact law

theorem marksLaw_of_apart {s u : State} (law : MarksLaw s) (change : Apart s u) : MarksLaw u := by
  cases change with
  | markSet l t p _ length id =>
    rw [marksLaw_iff, auth_setMark]
    exact marksOrdered_placeMark law length id
  | markDeleted l t id =>
    rw [marksLaw_iff, auth_deleteMark]
    exact marksOrdered_removeMark id law
  | anchorSet l t power => exact marksLaw_of_marks law (marks_setAnchor ..)
  | anchorTaken l t => exact marksLaw_of_marks law (marks_anchorHere ..)
  | startScanEnds since t reinit =>
    refine marksLaw_of_marks law ((marks_endStartup _).trans ?_)
    split <;> simp
  | _ => exact marksLaw_of_marks law (by simp)

theorem marksLaw_of_effect (s u : State) (law : MarksLaw s) (effect : Effect s u) : MarksLaw u := by
  cases effect with
  | quiet change => exact robust_marksLaw.quiet law change
  | apart change => exact marksLaw_of_apart law change
  | reinitialized | resetLeft => exact marksOrdered_nil
  | _ => exact marksLaw_of_marks law (by simp)

/-- Settles O10: only SET MARK and DELETE MARK change the list, and both keep its order. -/
theorem stepKeepsMarksLaw : Obligations.StepKeepsMarksLaw :=
  robust_marksLaw.step_keeps (fun _ _ _ => marksOrdered_nil) marksLaw_of_effect

/-! ### Focus powers (R11, R167, R169, R170) -/

theorem clampNat_le (lo hi x : Nat) (range : lo ≤ hi) : clampNat lo hi x ≤ hi := by
  unfold clampNat
  split
  · exact range
  · split <;> omega

theorem le_clampNat (lo hi x : Nat) (range : lo ≤ hi) : lo ≤ clampNat lo hi x := by
  unfold clampNat
  split
  · exact le_rfl
  · split <;> omega

theorem convert_focus_le (m : AxisMap) (c : Nat) : convert .focus m c ≤ 20000 := by
  unfold convert unitClamp clampInt
  dsimp only
  generalize (if c < m.first.count then (m.first.value : Int) else segmentValue m.first m.rest c) = v
  split
  · omega
  · split <;> omega

theorem power_predictFrame_le (ms0 : MS0) (t : Instant) (cp : MapCopy) (s : State) :
    (predictFrame ms0 t cp s).position.power ≤ 20000 := convert_focus_le _ _

theorem defaultAnchor_le (m : List Host.Cell) : (descriptionAt m).defaultAnchor ≤ 20000 :=
  clampNat_le 0 20000 _ (by omega)

/-- The powers the engine and the front end hold. -/
def PowersRead (s : State) : Prop :=
  (∀ p, s.engine.lastPrediction = some p → p.power ≤ 20000) ∧
  (∀ r v, s.front.axes.focus.latest = some r → r.value = some v → v ≤ 20000)

theorem powerLaw_iff (s : State) : PowerLaw s ↔
    (s.auth.anchor ≤ 20000 ∧ ∀ m ∈ s.auth.marks, m.power ≤ 20000) ∧ PowersRead s := by
  unfold PowerLaw PowersRead
  tauto

theorem robust_powersRead : Robust PowersRead := robust_of_blind fun _ => Iff.rfl

theorem robust_powerLaw : Robust PowerLaw := robust_of_blind fun _ => Iff.rfl

theorem PowersRead.of_same {s u : State} (read : PowersRead s)
    (last : u.engine.lastPrediction = s.engine.lastPrediction)
    (latest : u.front.axes.focus.latest = s.front.axes.focus.latest) : PowersRead u := by
  unfold PowersRead
  rw [last, latest]
  exact read

theorem lastPrediction_reevaluate (s : State) :
    (reevaluate s).engine.lastPrediction = s.engine.lastPrediction := by
  have r : Robust fun u => u.engine.lastPrediction = s.engine.lastPrediction := robust_of_blind fun _ => Iff.rfl
  exact r.reevaluate rfl

theorem lastPrediction_writeMode (l : Link) (p : List Byte) (s : State) :
    (writeMode l p s).engine.lastPrediction = s.engine.lastPrediction := by
  have written (b : Bool) : (writeSet b p s.engine).lastPrediction = s.engine.lastPrediction := by
    unfold writeSet
    split <;> rfl
  simp only [writeMode, replyOk_frame]
  split
  · exact written _
  · exact (lastPrediction_reevaluate _).trans (written _)

theorem lastPrediction_countStaged (s : State) :
    (countStaged s).engine.lastPrediction = s.engine.lastPrediction := by
  have r : Robust fun u => u.engine.lastPrediction = s.engine.lastPrediction := robust_of_blind fun _ => Iff.rfl
  simp only [countStaged]
  split
  · refine r.followSelection (r.raiseIf ?_ _ _)
    rfl
  · simp

theorem lastPrediction_applyEdge (s : State) : (applyEdge s).engine.lastPrediction = s.engine.lastPrediction := by
  have r : Robust fun u => u.engine.lastPrediction = s.engine.lastPrediction := robust_of_blind fun _ => Iff.rfl
  have after (u : State) : (afterSync u).engine.lastPrediction = u.engine.lastPrediction := by
    simp only [afterSync, lastPrediction_reevaluate, decideSync_frame, lastPrediction_countStaged]
  unfold applyEdge
  split
  · rfl
  · rw [after, beginAcquisition]
    simp only [raise_frame, engine_setTiming]
    exact r.stopIfNeeded rfl
  · simp [after]

theorem lastPrediction_onComputing {f : Entry → Computation → Engine → Entry × Engine}
    (keeps : ∀ e c g, (f e c g).2.lastPrediction = g.lastPrediction) (s : State) :
    (onComputing f s).engine.lastPrediction = s.engine.lastPrediction := by
  have all (g : Engine) (es : List Entry) : (withComputing f g es).2.lastPrediction = g.lastPrediction := by
    induction es with
    | nil => rfl
    | cons e es ih =>
      unfold withComputing
      split
      · exact keeps ..
      · exact ih
  exact all ..

theorem lastPrediction_endComputation (e : Entry) (c : Computation) (g : Engine) :
    (endComputation e c g).2.lastPrediction = g.lastPrediction := by
  unfold endComputation
  dsimp only
  split <;> rfl

theorem lastPrediction_handCell (k : Key) (cell : Cell) (s : State) :
    (handCell k cell s).engine.lastPrediction = s.engine.lastPrediction := by
  refine lastPrediction_onComputing (fun e c g => ?_) s
  dsimp only
  split
  · rfl
  · split
    · exact lastPrediction_endComputation ..
    · rfl

theorem lastPrediction_notePredictions (m : MS0) (t : Instant) (cp : MapCopy) (s : State) :
    (notePredictions m t cp s).engine.lastPrediction = some (predictFrame m t cp s).position := rfl

theorem latest_noteConversion (a b : Axis) (outside : Bool) (s : State) :
    ((noteConversion a outside s).front.axes.get b).latest = (s.front.axes.get b).latest := by
  rw [axes_noteConversion]
  cases a <;> cases b <;> rfl

theorem latest_notePrediction (a b : Axis) (cp : MapCopy) (p : Option AxisPrediction) (s : State) :
    ((notePrediction a cp p s).front.axes.get b).latest = (s.front.axes.get b).latest := by
  unfold notePrediction
  split
  · rfl
  · exact latest_noteConversion ..

theorem latest_notePredictions (m : MS0) (t : Instant) (cp : MapCopy) (b : Axis) (s : State) :
    ((notePredictions m t cp s).front.axes.get b).latest = (s.front.axes.get b).latest := by
  simp only [notePredictions, front_setEngine, latest_notePrediction]

theorem powersRead_notePredictions {m : MS0} {t : Instant} {cp : MapCopy} {s : State} (read : PowersRead s) :
    PowersRead (notePredictions m t cp s) := by
  refine ⟨fun p last => ?_, fun r v latest => read.2 r v ?_⟩
  · rw [lastPrediction_notePredictions] at last
    cases last
    exact power_predictFrame_le ..
  · rw [← latest]
    exact (latest_notePredictions m t cp .focus s).symm

theorem powersRead_computePattern {e : Entry} {x : Inputs} {s : State} (read : PowersRead s) :
    PowersRead (computePattern e x s) :=
  powersRead_notePredictions read

theorem powersRead_computeFrame {e : Entry} {x : Inputs} {s : State} (read : PowersRead s) :
    PowersRead (computeFrame e x s) := by
  have noted : PowersRead (notePredictions x.ms0 e.target x.copy s) := powersRead_notePredictions read
  simp only [computeFrame]
  split
  · refine noted.of_same ((lastPrediction_onComputing (fun _ _ _ => lastPrediction_endComputation ..) _).trans ?_) ?_
    · simp
    · simp
  · exact noted.of_same (by simp) (by simp)

theorem powersRead_discardMaps {s : State} (read : PowersRead s) :
    PowersRead (s.setFront (discardMaps s.front)) := by
  refine ⟨read.1, fun r v latest value => ?_⟩
  obtain ⟨old, -, rfl⟩ := Option.map_eq_some_iff.1 latest
  cases value

theorem powersRead_beginOnSector (n : BitVec 3) {s : State} (read : PowersRead s) : PowersRead (beginOnSector n s) := by
  simp only [beginOnSector]
  have withdrawn := read.of_same (u := withdrawKind .shading n (withdrawKind .breathing n
    (s.setStore { s.store with verdicts := s.store.verdicts.set n.toNat .unscanned }))) (by simp) (by simp)
  split
  · refine robust_powersRead.reevaluate ?_
    exact powersRead_discardMaps withdrawn
  · exact withdrawn

theorem powersRead_scanResults {s : State} (read : PowersRead s) : PowersRead (scanResults s) := by
  have scanned : PowersRead (scanSector0 (s.setStore { s.store with
      verdicts := scanVerdicts s.store.flash,
      headers := tableSectors.map fun n => some (headerAt s.store.flash n) })) := by
    unfold scanSector0
    dsimp only
    split
    · exact read
    · exact powersRead_discardMaps read
  exact scanned.of_same (by simp [scanResults]) (by simp [scanResults])

theorem powersRead_endStartup {s : State} (read : PowersRead s) : PowersRead (endStartup s) := by
  have r := robust_powersRead
  have settled : PowersRead (reevaluate (anchored s)) := r.reevaluate read
  unfold endStartup
  refine r.abilitySend (r.abilitySend ?_ _ _) _ _
  exact settled.of_same (by rw [engine_setFront]; rfl) (by simp [anchored])

/-- The front end's record of an axis after a filed sample: a valid one rewrites it (R7). -/
theorem latest_applySample (a : Axis) (x : Sample) (s : State) :
    ((applySample a x s).front.axes.get a).latest =
      if x.valid then some ⟨x.instant, x.count, s.front.mapCopy.map fun cp => convert a (cp.maps.get a) x.count.toNat⟩
      else (axisStep x.valid
        { s.front.axes.get a with ring := fileSample x (s.front.axes.get a).ring, reading := none }).latest := by
  unfold applySample
  dsimp only
  split
  case isTrue =>
    cases copy : s.front.mapCopy with
    | none => simp
    | some cp => simp [latest_noteConversion]
  case isFalse => simp

theorem latest_axisStep (valid : Bool) (u : AxisUnit) : (axisStep valid u).latest = u.latest := by
  unfold axisStep
  split
  case h_5 | h_8 | h_9 => split <;> rfl
  all_goals rfl

theorem latest_applySample_of_ne {a b : Axis} (x : Sample) (s : State) (other : b ≠ a) :
    ((applySample a x s).front.axes.get b).latest = (s.front.axes.get b).latest := by
  obtain ⟨u, axes, -⟩ := axes_applySample a x s
  rw [axes, axis_get_set_of_ne _ _ other]

theorem powersRead_applySample {a : Axis} {x : Sample} {s : State} (read : PowersRead s) :
    PowersRead (applySample a x s) := by
  refine ⟨by simpa using read.1, fun r v latest value => ?_⟩
  change ((applySample a x s).front.axes.get .focus).latest = some r at latest
  by_cases focus : a = .focus
  · subst focus
    rw [latest_applySample, latest_axisStep] at latest
    split at latest
    · cases latest
      obtain ⟨cp, -, rfl⟩ := Option.map_eq_some_iff.1 value
      exact convert_focus_le ..
    · exact read.2 r v latest value
  · rw [latest_applySample_of_ne x s (Ne.symm focus)] at latest
    exact read.2 r v latest value

theorem powersRead_samplingBegins {s : State} (t : Instant) (read : PowersRead s) :
    PowersRead ((advanceTo t s).setFront { s.front with
      axes := s.front.axes.mapAxes (startRead s t), nextSampling := some (addInterval t 500) }) := by
  refine ⟨read.1, fun r v latest => read.2 r v ?_⟩
  simpa [PerAxis.mapAxes, startRead, State.fitted, fittedBy] using latest

theorem powersRead_beginWork (o : StoreOp) {s : State} (read : PowersRead s) : PowersRead (beginWork o s) := by
  unfold beginWork
  dsimp only
  split
  · exact powersRead_beginOnSector _ read
  · exact read

theorem powersRead_finishClearSector (o : StoreOp) (n : BitVec 3) {s : State} (read : PowersRead s) :
    PowersRead (finishClearSector o n s) := by
  simp only [finishClearSector]
  split
  · refine robust_powersRead.completeOp ?_ _ _
    exact read
  · refine powersRead_beginOnSector _ ?_
    exact read

theorem powersRead_of_apart {s u : State} (read : PowersRead s) (change : Apart s u) : PowersRead u := by
  have r := robust_powersRead
  cases change with
  | programTaken l t | eraseTaken l t => exact powersRead_beginOnSector _ (r.startOp (r.received read l t) _ _ _ _)
  | startScanEnds since t reinit =>
    have scanned := powersRead_scanResults (r.advanceTo read t)
    refine powersRead_endStartup ?_
    split
    · exact scanned
    · exact scanned.of_same (by simp) (by simp)
  | rescanEnds o t => exact r.completeOp (powersRead_scanResults (r.advanceTo read t)) _ _
  | samplingBegins t => exact powersRead_samplingBegins t read
  | sampleFiled a t x => exact powersRead_applySample (r.advanceTo read t)
  | workBegins o => exact powersRead_beginWork o read
  | eraseEnds o n t | programEnds o n p t =>
    refine r.completeOp ?_ _ _
    exact read
  | protectEnds o t =>
    unfold finishProtect
    refine r.completeOp ?_ _ _
    exact read
  | clearSectorEnds o n t => exact powersRead_finishClearSector o n (r.advanceTo read t)
  | _ => exact read.of_same (by simp) (by simp)

/-- The powers the engine and the front end hold come from conversions alone. -/
theorem powersRead_of_effect {s u : State} (read : PowersRead s) (effect : Effect s u) : PowersRead u := by
  have r := robust_powersRead
  cases effect with
  | quiet change => exact r.quiet read change
  | apart change => exact powersRead_of_apart read change
  | modeWritten l t p => exact read.of_same (lastPrediction_writeMode l p _) (by simp)
  | reinitialized | resetLeft => exact ⟨nofun, nofun⟩
  | edgeCaptured t => exact (r.advanceTo read t).of_same (lastPrediction_applyEdge _) (by simp)
  | streamLost t =>
    refine r.reevaluate (r.raise ?_ _)
    exact read
  | patternComputed e x => exact powersRead_computePattern (r.advanceTo read _)
  | computationBegins e x => exact powersRead_computeFrame (r.advanceTo read _)
  | cutOff t =>
    exact (r.advanceTo read t).of_same (lastPrediction_onComputing (fun _ _ _ => lastPrediction_endComputation ..) _)
      (by simp)
  | fillEnds k cell since =>
    simp only [finishFill]
    split
    · exact (r.endRead read since 24).of_same ((lastPrediction_handCell ..).trans (by simp)) (by simp)
    · exact (r.endRead read since 24).of_same (by simp) (by simp)
  | _ => exact read.of_same (by simp) (by simp)

/-! The powers the authority unit holds. -/

/-- The anchor and the powers of the marks. -/
def PowersStored (a : Authority) : Prop := a.anchor ≤ 20000 ∧ ∀ m ∈ a.marks, m.power ≤ 20000

theorem herePower_le {s : State} {power source : Nat} (read : PowersRead s)
    (here : herePower s = some (power, source)) : power ≤ 20000 := by
  obtain ⟨predicted, sampled⟩ := read
  unfold herePower at here
  split at here
  case h_1 p last =>
    cases here
    exact predicted p last
  case h_2 =>
    obtain ⟨v, value, same⟩ := Option.map_eq_some_iff.1 here
    obtain ⟨r, latest, value⟩ := Option.bind_eq_some_iff.1 value
    cases same
    exact sampled r _ latest value

theorem markPower_le {p : List Byte} {s : State} (read : PowersRead s) : markPower p s ≤ 20000 := by
  unfold markPower
  split
  · cases here : herePower s with
    | none => simp
    | some x => exact herePower_le read here
  · exact clampNat_le 0 20000 _ (by omega)

theorem powersStored_placeMark {a : Authority} {id power : Nat} {part : Option (List Byte)} (stored : PowersStored a)
    (bound : power ≤ 20000) : PowersStored { a with marks := placeMark id power part a.marks } := by
  refine ⟨stored.1, fun m mem => ?_⟩
  rcases mem_insertMark.1 mem with rfl | mem
  · exact bound
  · exact stored.2 m (mem_removeMark.1 mem).1

theorem description_scanResults (s : State) : (scanResults s).store.description =
    if sector0Passes s.store.flash then some (descriptionAt s.store.flash) else none := by
  have kind (k : TableKind) (u : State) : (scanKind k u).store.description = u.store.description := by
    have invalidated (u : State) : (invalidateKind k u).store.description = u.store.description := by
      simp only [invalidateKind]
      split <;> rfl
    simp only [scanKind]
    split
    · rw [invalidated]; cases k <;> rfl
    · cases k <;> rfl
  simp only [scanResults, kind, scanSector0, store_setStore]
  by_cases passes : sector0Passes s.store.flash = true <;> simp [passes]

theorem auth_endStartup (s : State) : (endStartup s).auth =
    { s.auth with anchor := (s.store.description.map Description.defaultAnchor).getD 0 } := by
  simp [endStartup]

theorem powersStored_endStartup {s : State} {m : List Host.Cell} (stored : PowersStored s.auth)
    (description : s.store.description = if sector0Passes m then some (descriptionAt m) else none) :
    PowersStored (endStartup s).auth := by
  rw [auth_endStartup, description]
  refine ⟨?_, stored.2⟩
  dsimp only
  split
  · exact defaultAnchor_le m
  · simp

theorem powersStored_of_apart {s u : State} (law : PowerLaw s) (change : Apart s u) : PowersStored u.auth := by
  obtain ⟨stored, read⟩ := (powerLaw_iff s).1 law
  have kept (v : State) (same : v.auth = s.auth) : PowersStored v.auth := same ▸ stored
  cases change with
  | anchorSet l t power =>
    have anchored : (setAnchor l power (received l t s)).auth = { s.auth with anchor := clampNat 0 20000 power } := by
      simp [setAnchor]
    rw [anchored]
    exact ⟨clampNat_le 0 20000 _ (by omega), stored.2⟩
  | anchorTaken l t =>
    unfold anchorHere
    split
    case h_1 => exact stored
    case h_2 a source here =>
      have anchored : PowersStored ((received l t s).setAuth { (received l t s).auth with anchor := a }).auth :=
        ⟨herePower_le (robust_powersRead.received read l t) here, stored.2⟩
      simpa using anchored
  | markSet l t p =>
    rw [auth_setMark]
    exact powersStored_placeMark stored (markPower_le (robust_powersRead.received read l t))
  | markDeleted l t id =>
    rw [auth_deleteMark]
    exact ⟨stored.1, fun m mem => stored.2 m (mem_removeMark.1 mem).1⟩
  | startScanEnds since t reinit =>
    have scanned := description_scanResults (advanceTo t s)
    refine powersStored_endStartup (m := s.store.flash) ?_ ?_
    · split <;> exact kept _ (by simp)
    · split
      · exact scanned
      · simpa using scanned
  | _ => exact kept _ (by simp)

theorem powersStored_of_effect {s u : State} (law : PowerLaw s) (effect : Effect s u) : PowersStored u.auth := by
  obtain ⟨stored, -⟩ := (powerLaw_iff s).1 law
  have kept (v : State) (same : v.auth = s.auth) : PowersStored v.auth := same ▸ stored
  cases effect with
  | quiet change => exact (robust_of_blind (P := fun v => PowersStored v.auth) fun _ => Iff.rfl).quiet stored change
  | apart change => exact powersStored_of_apart law change
  | reinitialized | resetLeft => exact ⟨Nat.zero_le _, nofun⟩
  | _ => exact kept _ (by simp)

/-- Settles O11: a power is stored clamped, taken from another the part holds, or converted into the range. -/
theorem stepKeepsPowerLaw : Obligations.StepKeepsPowerLaw :=
  robust_powerLaw.step_keeps (fun _ _ _ => ⟨Nat.zero_le _, nofun, nofun, nofun⟩) fun s u law effect =>
    (powerLaw_iff u).2 ⟨powersStored_of_effect law effect, powersRead_of_effect ((powerLaw_iff s).1 law).2 effect⟩

/-! ### The stream (2.3, R19 to R22) -/

/-- What the stream's law reads. -/
def StreamOk (t : Timing) : Prop :=
  (t.stream ≠ .locked → t.period = 0) ∧ (t.stream = .locked → 2000 ≤ t.period ∧ t.period ≤ 1000000) ∧
  (t.stream ≠ .noStream → t.lastSync.isSome = true)

theorem streamLaw_iff (s : State) : StreamLaw s ↔ StreamOk s.timing := Iff.rfl

theorem ofTiming_streamLaw : OfTiming StreamLaw where
  toRobust := robust_of_blind fun _ => Iff.rfl
  seq _ _ law := law
  front _ law := law
  store _ law := law
  cache _ law := law
  auth _ law := law

theorem streamLaw_decideSync {s : State} (law : StreamLaw s) : StreamLaw (decideSync s) := by
  unfold decideSync
  split
  · split <;> exact law
  · exact law

theorem streamLaw_countStaged {s : State} (law : StreamLaw s) : StreamLaw (countStaged s) := by
  have r := ofTiming_streamLaw
  simp only [countStaged]
  split
  · refine r.followSelection (r.raiseIf ?_ _ _)
    exact law
  · refine r.raiseIf ?_ _ _
    exact law

/-- An edge that locks the stream came an interval R21 admits after the last accepted sync. -/
theorem judgeEdge_locks {s : State} {n : Nat} (h : judgeEdge s = .locks n) : 2000 ≤ n ∧ n ≤ 1000000 := by
  unfold judgeEdge at h
  dsimp only at h
  split at h
  case h_4 | h_5 =>
    split at h
    · cases h
    · split at h
      · cases h
        omega
      · cases h
  all_goals cases h

theorem streamLaw_applyEdge {s : State} (law : StreamLaw s) : StreamLaw (applyEdge s) := by
  have r := ofTiming_streamLaw
  have after (u : State) (law : StreamLaw u) : StreamLaw (afterSync u) :=
    r.reevaluate (streamLaw_decideSync (streamLaw_countStaged law))
  unfold applyEdge
  split
  · exact law
  · have begun : StreamLaw (s.setTiming { s.timing with
        stream := .acquiring, lastSync := some s.now, period := 0, frameNumber := 0 }) :=
      ⟨fun _ => rfl, nofun, fun _ => rfl⟩
    refine after _ (r.raise ?_ _)
    exact r.stopIfNeeded begun
  case h_3 n verdict => exact after _ ⟨fun out => absurd rfl out, fun _ => judgeEdge_locks verdict, fun _ => rfl⟩

theorem streamLaw_of_timing {s u : State} (law : StreamLaw s) (same : u.timing = s.timing) : StreamLaw u := by
  rw [streamLaw_iff, same]
  exact law

theorem streamLaw_setProgress (p : Progress) {s : State} (law : StreamLaw s) : StreamLaw (setProgress p s) := law

theorem streamLaw_onComputing (f : Entry → Computation → Engine → Entry × Engine) {s : State} (law : StreamLaw s) :
    StreamLaw (onComputing f s) := law

theorem streamLaw_computeFrame (e : Entry) (x : Inputs) {s : State} (law : StreamLaw s) :
    StreamLaw (computeFrame e x s) := by
  have noted : StreamLaw (notePredictions x.ms0 e.target x.copy s) := streamLaw_of_timing law (by simp)
  simp only [computeFrame]
  split
  · exact streamLaw_onComputing _ (streamLaw_setProgress _ noted)
  · exact streamLaw_setProgress _ noted

theorem streamLaw_of_effect (s u : State) (law : StreamLaw s) (effect : Effect s u) : StreamLaw u := by
  have r := ofTiming_streamLaw
  cases effect with
  | quiet change => exact r.quiet law change
  | apart change => exact r.apart law change
  | formatReplaced l t | infoReplaced l t =>
    refine r.replyOk ?_ _ _ _
    exact r.received law l t
  | modeWritten l t =>
    refine r.writeMode l ?_
    exact r.received law l t
  | reinitialized | resetLeft => exact ⟨fun _ => rfl, nofun, fun out => absurd rfl out⟩
  | edgeCaptured t => exact streamLaw_applyEdge (r.advanceTo law t)
  | streamLost t =>
    refine r.reevaluate (r.raise ?_ _)
    exact ⟨fun _ => rfl, nofun, fun out => absurd rfl out⟩
  | patternComputed e x =>
    refine streamLaw_setProgress _ (streamLaw_of_timing (r.advanceTo law e.compute) ?_)
    simp
  | computationBegins e x => exact streamLaw_computeFrame e x (r.advanceTo law e.compute)
  | cutOff t => exact streamLaw_onComputing _ (r.advanceTo law t)
  | recordLeaves e d rest =>
    refine r.handOver e d ?_
    exact law
  | fillEnds k cell since =>
    simp only [finishFill]
    split
    · exact streamLaw_onComputing _ (r.endRead law since 24)
    · exact r.endRead law since 24

/-- Settles O14: the period is set with the stream's state, to an interval R21 admits. -/
theorem stepKeepsStreamLaw : Obligations.StepKeepsStreamLaw :=
  ofTiming_streamLaw.step_keeps (fun _ _ _ => ⟨fun _ => rfl, nofun, fun out => absurd rfl out⟩) streamLaw_of_effect

end Sys2Proof.Machine
end

section
/-! PROOF. The laws of the axes and of the fill queue. -/

namespace Sys2Proof.Machine

/-! ### The axes (1.2, 1.3, R2, R6, R8) -/

theorem robust_axisLaw : Robust AxisLaw := robust_of_blind fun _ => Iff.rfl

theorem axisLaw_of_units {s u : State} (law : AxisLaw s) (straps : u.seq.straps = s.seq.straps)
    (units : ∀ a b, AxisUnitLaw b (s.front.axes.get a) → AxisUnitLaw b (u.front.axes.get a)) : AxisLaw u := by
  intro a
  have same : u.fitted a = s.fitted a := by simp [State.fitted, straps]
  rw [same]
  exact units a _ (law a)

theorem axisLaw_of_same {s u : State} (law : AxisLaw s) (straps : u.seq.straps = s.seq.straps)
    (axes : u.front.axes = s.front.axes) : AxisLaw u :=
  axisLaw_of_units law straps fun a b h => by rwa [axes]

/-- OUTSIDE_MAP and the contents of the latest valid sample record are not the law's business. -/
theorem axisUnitLaw_congr {b : Bool} {u : AxisUnit} (law : AxisUnitLaw b u) (latest : Option LatestSample)
    (outside : Bool) (same : latest = none ↔ u.latest = none) :
    AxisUnitLaw b { u with latest := latest, outsideMap := outside } := by
  obtain ⟨ring, reading, absent, state⟩ := law
  refine ⟨ring, reading, absent, ?_⟩
  dsimp only
  split <;> simp_all

theorem axisUnitLaw_reset (b : Bool) : AxisUnitLaw b (.reset b) := by
  cases b <;> simp [AxisUnitLaw, AxisUnit.reset]

theorem axisLaw_reset {s : State} (straps : Straps) (same : s.seq.straps = straps) (front : s.front = .reset straps) :
    AxisLaw s := by
  intro a
  rw [front, State.fitted, same]
  cases a <;> exact axisUnitLaw_reset _

theorem axisLaw_discardMaps {s : State} (law : AxisLaw s) : AxisLaw (s.setFront (discardMaps s.front)) := by
  refine axisLaw_of_units law rfl fun a b unit => ?_
  have discarded := axisUnitLaw_congr unit ((s.front.axes.get a).latest.map fun r => { r with value := none }) false
    Option.map_eq_none_iff
  cases a <;> exact discarded

theorem axisLaw_beginOnSector (n : BitVec 3) {s : State} (law : AxisLaw s) : AxisLaw (beginOnSector n s) := by
  have withdrawn := axisLaw_of_same law (u := withdrawKind .shading n (withdrawKind .breathing n
    (s.setStore { s.store with verdicts := s.store.verdicts.set n.toNat .unscanned }))) (by simp) (by simp)
  simp only [beginOnSector]
  split
  · refine robust_axisLaw.reevaluate ?_
    exact axisLaw_discardMaps withdrawn
  · exact withdrawn

theorem axisLaw_scanResults {s : State} (law : AxisLaw s) : AxisLaw (scanResults s) := by
  have scanned : AxisLaw (scanSector0 (s.setStore { s.store with
      verdicts := scanVerdicts s.store.flash,
      headers := tableSectors.map fun n => some (headerAt s.store.flash n) })) := by
    unfold scanSector0
    dsimp only
    split
    · exact law
    · exact axisLaw_discardMaps law
  exact axisLaw_of_same scanned (by simp [scanResults]) (by simp [scanResults])

theorem axisLaw_setPhase (x : Phase) {s : State} (law : AxisLaw s) : AxisLaw (setPhase x s) := law

theorem axisLaw_failBits (n : Nat) {s : State} (law : AxisLaw s) : AxisLaw (failBits n s) := law

theorem axisLaw_endStartup {s : State} (law : AxisLaw s) : AxisLaw (endStartup s) := by
  have r := robust_axisLaw
  have settled : AxisLaw (reevaluate (anchored s)) := r.reevaluate (show AxisLaw (anchored s) from law)
  unfold endStartup
  refine r.abilitySend (r.abilitySend ?_ _ _) _ _
  exact axisLaw_of_same settled (by simp [anchored]) (by simp [anchored])

theorem axisLaw_beginWork (o : StoreOp) {s : State} (law : AxisLaw s) : AxisLaw (beginWork o s) := by
  unfold beginWork
  dsimp only
  split
  · exact axisLaw_beginOnSector _ law
  · exact law

theorem axisLaw_finishClearSector (o : StoreOp) (n : BitVec 3) {s : State} (law : AxisLaw s) :
    AxisLaw (finishClearSector o n s) := by
  simp only [finishClearSector]
  split
  · refine robust_axisLaw.completeOp ?_ _ _
    exact law
  · refine axisLaw_beginOnSector _ ?_
    exact law

theorem length_fileSample_le {x : Sample} {ring : List Sample} (length : ring.length ≤ 32) :
    (fileSample x ring).length ≤ 32 := by
  simp only [fileSample, List.length_drop, List.length_append, List.length_cons, List.length_nil]
  omega

/-- The table of R8 keeps the runs with the states, and a valid sample ends SEEKING, so that the record may be
written. -/
theorem axisUnitLaw_axisStep {u : AxisUnit} {x : Sample} (law : AxisUnitLaw true u) :
    AxisUnitLaw true (axisStep x.valid { u with ring := fileSample x u.ring, reading := none }) ∧
      (x.valid = true →
        (axisStep x.valid { u with ring := fileSample x u.ring, reading := none }).state ≠ .seeking) := by
  obtain ⟨length, -, absent, state⟩ := law
  have ring := length_fileSample_le (x := x) length
  have present : u.state ≠ .absent := fun here => nomatch absent.1 here
  unfold axisStep
  dsimp only
  split
  case h_1 current => exact absurd current present
  case h_2 current _ =>
    rw [current] at state
    exact ⟨⟨ring, nofun, by simp, rfl, state.2.1⟩, fun _ => nofun⟩
  case h_3 current _ =>
    rw [current] at state
    exact ⟨⟨ring, nofun, by simp [current], by simpa [current] using state.2⟩, fun _ => by simp [current]⟩
  case h_4 current _ =>
    rw [current] at state
    exact ⟨⟨ring, nofun, by simp, rfl, state.2.2⟩, fun _ => nofun⟩
  case h_5 current _ =>
    rw [current] at state
    split
    case isTrue => exact ⟨⟨ring, nofun, by simp, rfl, rfl⟩, fun _ => nofun⟩
    case isFalse early =>
      exact ⟨⟨ring, nofun, by simp [current], by simp [current, state.1]; omega⟩, fun _ => by simp [current]⟩
  case h_6 current bad =>
    rw [current] at state
    exact ⟨⟨ring, nofun, by simp, by simp [state.2]⟩, fun good => by simp [bad] at good⟩
  case h_7 current bad =>
    exact ⟨⟨ring, nofun, by simp [current], by simp [current]⟩, fun good => by simp [bad] at good⟩
  case h_8 current bad =>
    rw [current] at state
    split
    case isTrue => exact ⟨⟨ring, nofun, by simp, by simp⟩, fun good => by simp [bad] at good⟩
    case isFalse early =>
      exact ⟨⟨ring, nofun, by simp [current], by simp [current, state.2]; omega⟩, fun good => by simp [bad] at good⟩
  case h_9 current bad =>
    rw [current] at state
    split
    case isTrue => exact ⟨⟨ring, nofun, by simp, by simp⟩, fun good => by simp [bad] at good⟩
    case isFalse early =>
      exact ⟨⟨ring, nofun, by simp [current], by simp [current, state.2]; omega⟩, fun good => by simp [bad] at good⟩

theorem axisUnitLaw_latest {u : AxisUnit} (latest : Option LatestSample) (outside : Bool) (law : AxisUnitLaw true u)
    (sought : u.state ≠ .seeking) : AxisUnitLaw true { u with latest := latest, outsideMap := outside } := by
  obtain ⟨ring, reading, absent, state⟩ := law
  refine ⟨ring, reading, absent, ?_⟩
  dsimp only
  split <;> simp_all

theorem axisUnitLaw_applySample (a : Axis) (x : Sample) {s : State}
    (law : AxisUnitLaw true (s.front.axes.get a)) : AxisUnitLaw true ((applySample a x s).front.axes.get a) := by
  obtain ⟨stepped, sought⟩ := axisUnitLaw_axisStep (x := x) law
  unfold applySample
  dsimp only
  split
  case isTrue valid =>
    have filed := fun latest outside => axisUnitLaw_latest latest outside stepped (sought valid)
    split
    · simpa using filed _ _
    · rw [axes_noteConversion]
      simpa using filed _ _
  case isFalse => simpa using stepped

theorem axisLaw_applySample {a : Axis} {x : Sample} {s : State} (law : AxisLaw s)
    (reading : (s.front.axes.get a).reading.isSome = true) : AxisLaw (applySample a x s) := by
  obtain ⟨-, fitted, -⟩ := law a
  have fitted := fitted reading
  intro b
  have straps : (applySample a x s).fitted b = s.fitted b := by simp [State.fitted]
  rw [straps]
  by_cases same : b = a
  · subst same
    rw [fitted]
    exact axisUnitLaw_applySample b x (fitted ▸ law b)
  · obtain ⟨u, axes, -⟩ := axes_applySample a x s
    rw [axes, axis_get_set_of_ne _ _ same]
    exact law b

theorem axisLaw_samplingBegins {s : State} (t : Instant) (law : AxisLaw s) :
    AxisLaw ((advanceTo t s).setFront { s.front with
      axes := s.front.axes.mapAxes (startRead s t), nextSampling := some (addInterval t 500) }) := by
  intro a
  have read : AxisUnitLaw (s.fitted a) (startRead s t a (s.front.axes.get a)) := by
    obtain ⟨ring, reading, absent, state⟩ := law a
    unfold startRead
    split
    case isTrue fitted => exact ⟨ring, fun _ => fitted, absent, state⟩
    case isFalse => exact ⟨ring, reading, absent, state⟩
  cases a <;> exact read

theorem axisLaw_notePredictions {m : MS0} {t : Instant} {cp : MapCopy} {s : State} (law : AxisLaw s) :
    AxisLaw (notePredictions m t cp s) := by
  have noted (a : Axis) (p : Option AxisPrediction) {u : State} (law : AxisLaw u) :
      AxisLaw (notePrediction a cp p u) := by
    unfold notePrediction
    split
    case h_1 => exact law
    case h_2 p =>
      refine axisLaw_of_units law (by simp) fun b fitted unit => ?_
      rw [axes_noteConversion, front_setEngine]
      by_cases same : b = a
      · subst same
        rw [axis_get_set_same]
        exact axisUnitLaw_congr unit _ _ Iff.rfl
      · rw [axis_get_set_of_ne _ _ same]
        exact unit
  exact axisLaw_of_same (noted .iris _ (noted .zoom _ (noted .focus _ law))) rfl rfl

theorem axisLaw_of_apart {s u : State} (law : AxisLaw s) (change : Apart s u) : AxisLaw u := by
  have r := robust_axisLaw
  cases change with
  | programTaken l t | eraseTaken l t => exact axisLaw_beginOnSector _ (r.startOp (r.received law l t) _ _ _ _)
  | ramChecked _ t => exact axisLaw_setPhase _ (axisLaw_failBits _ (r.advanceTo law t))
  | attemptBegins _ next => exact axisLaw_setPhase _ (r.advanceTo law next)
  | attemptEnds _ t =>
    unfold afterEncoderRead
    split
    · exact axisLaw_setPhase _ (r.advanceTo law t)
    · exact axisLaw_setPhase _ (axisLaw_failBits _ (r.advanceTo law t))
  | markerRead _ _ t => exact axisLaw_setPhase _ (r.advanceTo law t)
  | startScanEnds since t reinit =>
    refine axisLaw_endStartup ?_
    split
    · exact axisLaw_scanResults (r.advanceTo law t)
    · exact axisLaw_failBits _ (axisLaw_scanResults (r.advanceTo law t))
  | rescanEnds o t => exact r.completeOp (axisLaw_scanResults (r.advanceTo law t)) _ _
  | samplingBegins t => exact axisLaw_samplingBegins t law
  | sampleFiled a t x reading => exact axisLaw_applySample (r.advanceTo law t) reading
  | workBegins o => exact axisLaw_beginWork o law
  | clearSectorEnds o n t => exact axisLaw_finishClearSector o n (r.advanceTo law t)
  | _ => exact axisLaw_of_same law (by simp) (by simp)

theorem axisLaw_of_effect (s u : State) (law : AxisLaw s) (effect : Effect s u) : AxisLaw u := by
  have r := robust_axisLaw
  cases effect with
  | quiet change => exact r.quiet law change
  | apart change => exact axisLaw_of_apart law change
  | reinitialized => exact axisLaw_reset _ rfl rfl
  | resetLeft _ straps => exact axisLaw_reset straps rfl rfl
  | patternComputed e x =>
    exact axisLaw_of_same (axisLaw_notePredictions (r.advanceTo law e.compute)) rfl rfl
  | computationBegins e x =>
    refine axisLaw_of_same (axisLaw_notePredictions (m := x.ms0) (t := e.target) (cp := x.copy)
      (r.advanceTo law e.compute)) (by simp) ?_
    simp only [computeFrame]
    split <;> simp
  | _ => exact axisLaw_of_same law (by simp) (by simp)

/-- Settles O15: the table of R8 moves state and runs together, and the rest of the front end leaves them alone. -/
theorem stepKeepsAxisLaw : Obligations.StepKeepsAxisLaw :=
  robust_axisLaw.step_keeps (fun _ _ _ => axisLaw_reset _ rfl rfl) axisLaw_of_effect

end Sys2Proof.Machine
end

section
/-! PROOF. The law of the fill queue. -/

namespace Sys2Proof.Machine

/-! ### The queue's own operations (R88 to R91) -/

/-- The law of the fill queue. -/
def QueueOk (c : Cache) : Prop := queueLength c ≤ 16 ∧ c.prefetch.length ≤ 8 ∧ (queueKeys c).Nodup

theorem queueLaw_iff (s : State) : QueueLaw s ↔ QueueOk s.cache := Iff.rfl

theorem queueOk_of_sublist {c d : Cache} (law : QueueOk c)
    (demand : (d.demand.map FillEntry.key).Sublist (c.demand.map FillEntry.key))
    (prefetch : (d.prefetch.map FillEntry.key).Sublist (c.prefetch.map FillEntry.key)) : QueueOk d := by
  obtain ⟨length, prefetched, keys⟩ := law
  have fewer := demand.length_le
  have fewer' := prefetch.length_le
  simp only [List.length_map] at fewer fewer'
  refine ⟨?_, by omega, ?_⟩
  · unfold queueLength at length ⊢
    omega
  · unfold queueKeys at keys ⊢
    rw [List.map_append] at keys ⊢
    exact keys.sublist (demand.append prefetch)

theorem queueOk_of_same {c d : Cache} (law : QueueOk c) (demand : d.demand = c.demand)
    (prefetch : d.prefetch = c.prefetch) : QueueOk d :=
  queueOk_of_sublist law (by rw [demand]) (by rw [prefetch])

theorem queueOk_of_filter {c d : Cache} (law : QueueOk c) (keep : FillEntry → Bool)
    (demand : d.demand = c.demand.filter keep) (prefetch : d.prefetch = c.prefetch.filter keep) : QueueOk d := by
  refine queueOk_of_sublist law ?_ ?_
  · rw [demand]
    exact List.filter_sublist.map _
  · rw [prefetch]
    exact List.filter_sublist.map _

theorem queueOk_reset (d : Bool) : QueueOk (.reset d) := ⟨Nat.zero_le _, Nat.zero_le _, .nil⟩

theorem keys_markFirst (es : List FillEntry) : (markFirst es).map FillEntry.key = es.map FillEntry.key := by
  induction es with
  | nil => rfl
  | cons e es ih =>
    unfold markFirst
    split
    · simp [ih]
    · rfl

theorem dropOldest_sublist {es rest : List FillEntry} (h : dropOldest es = some rest) :
    rest.Sublist es ∧ rest.length + 1 = es.length := by
  induction es generalizing rest with
  | nil => cases h
  | cons e es ih =>
    unfold dropOldest at h
    split at h
    · obtain ⟨tail, found, rfl⟩ := Option.map_eq_some_iff.1 h
      obtain ⟨sub, length⟩ := ih found
      exact ⟨sub.cons_cons e, by simp [length]⟩
    · cases h
      exact ⟨List.sublist_cons_self e es, rfl⟩

/-- A fresh key may join either part while the counts allow it. -/
theorem queueOk_of_perm {c d : Cache} {k : Key} (keys : (queueKeys d).Perm (k :: queueKeys c))
    (fresh : k ∉ queueKeys c) (nodup : (queueKeys c).Nodup) (length : queueLength d ≤ 16)
    (prefetched : d.prefetch.length ≤ 8) : QueueOk d :=
  ⟨length, prefetched, keys.nodup_iff.2 (List.nodup_cons.2 ⟨fresh, nodup⟩)⟩

theorem queueKeys_eq (c : Cache) : queueKeys c = c.demand.map FillEntry.key ++ c.prefetch.map FillEntry.key :=
  List.map_append

theorem not_mem_keys {k : Key} {es : List FillEntry} (h : ¬(es.any fun e => decide (e.key = k)) = true) :
    k ∉ es.map FillEntry.key := by
  simpa [List.any_eq_true] using h

theorem queueOk_joinDemand {c : Cache} {k : Key} {g : Nat} (law : QueueOk c) (fresh : k ∉ queueKeys c)
    (room : queueLength c < 16) : QueueOk { c with demand := c.demand ++ [⟨k, g, false⟩] } := by
  obtain ⟨-, prefetched, keys⟩ := law
  refine queueOk_of_perm (k := k) ?_ fresh keys ?_ prefetched
  · simp [queueKeys_eq]
  · simpa [queueLength, Nat.add_right_comm] using room

theorem queueOk_joinPrefetch {c : Cache} {k : Key} {g : Nat} (law : QueueOk c) (fresh : k ∉ queueKeys c)
    (room : queueLength c < 16) (places : c.prefetch.length < 8) :
    QueueOk { c with prefetch := c.prefetch ++ [⟨k, g, false⟩] } := by
  obtain ⟨-, -, keys⟩ := law
  refine queueOk_of_perm (k := k) ?_ fresh keys ?_ ?_
  · simp [queueKeys_eq, ← List.append_assoc]
  · simp only [queueLength, List.length_append, List.length_cons, List.length_nil] at room ⊢
    omega
  · simpa using places

theorem queueOk_dropOldest {c : Cache} {rest : List FillEntry} (law : QueueOk c)
    (dropped : dropOldest c.prefetch = some rest) : QueueOk { c with prefetch := rest } :=
  queueOk_of_sublist law (.refl _) ((dropOldest_sublist dropped).1.map _)

theorem not_mem_dropOldest {c : Cache} {k : Key} {rest : List FillEntry} (fresh : k ∉ queueKeys c)
    (dropped : dropOldest c.prefetch = some rest) : k ∉ queueKeys { c with prefetch := rest } := by
  rw [queueKeys_eq] at fresh ⊢
  simp only [List.mem_append, not_or] at fresh ⊢
  exact ⟨fresh.1, fun mem => fresh.2 (((dropOldest_sublist dropped).1.map _).subset mem)⟩

/-- A prefetched key that a computation demands moves to the demand part (R89). -/
theorem queueOk_promote {c : Cache} {k : Key} {e : FillEntry} (law : QueueOk c)
    (absent : k ∉ c.demand.map FillEntry.key) (found : c.prefetch.find? (fun e => decide (e.key = k)) = some e) :
    QueueOk { c with demand := c.demand ++ [e], prefetch := c.prefetch.filter fun e => decide (e.key ≠ k) } := by
  obtain ⟨length, prefetched, keys⟩ := law
  have key : e.key = k := by simpa using List.find?_some found
  have mem : e ∈ c.prefetch := List.mem_of_find?_eq_some found
  have fewer : (c.prefetch.filter fun e => decide (e.key ≠ k)).length < c.prefetch.length := by
    refine List.length_filter_lt_length_iff_exists.2 ⟨e, mem, ?_⟩
    simp [key]
  refine ⟨?_, fewer.le.trans prefetched, ?_⟩
  · simp only [queueLength, List.length_append, List.length_cons, List.length_nil] at length ⊢
    omega
  · rw [queueKeys_eq] at keys ⊢
    obtain ⟨demand, prefetch, apart⟩ := List.nodup_append.1 keys
    simp only [List.map_append, List.map_cons, List.map_nil, List.append_assoc]
    refine List.nodup_append.2 ⟨demand, List.nodup_cons.2 ⟨?_, prefetch.sublist (List.filter_sublist.map _)⟩, ?_⟩
    · simp [key]
    · intro a inDemand b joined same
      subst same
      rcases List.mem_cons.1 joined with same | filtered
      · exact absent (key ▸ same ▸ inDemand)
      · exact apart a inDemand a ((List.filter_sublist.map _).subset filtered) rfl

theorem queueOk_demandRequest (k : Key) (g : Nat) {c : Cache} (law : QueueOk c) : QueueOk (demandRequest k g c).1 := by
  unfold demandRequest
  split
  case isTrue => exact law
  case isFalse absent =>
    have absent := not_mem_keys absent
    split
    case h_1 e found => exact queueOk_promote law absent found
    case h_2 missing =>
      have fresh : k ∉ queueKeys c := by
        rw [queueKeys_eq]
        simp only [List.mem_append, not_or]
        exact ⟨absent, by simpa using missing⟩
      split
      case isTrue room => exact queueOk_joinDemand law fresh room
      case isFalse =>
        split
        case h_1 rest dropped =>
          have shorter := (dropOldest_sublist dropped).2
          refine queueOk_joinDemand (queueOk_dropOldest law dropped) (not_mem_dropOldest fresh dropped) ?_
          have length := law.1
          unfold queueLength at length ⊢
          dsimp only
          omega
        case h_2 => exact law

theorem queueOk_prefetchRequest (k : Key) (g : Nat) {c : Cache} (law : QueueOk c) :
    QueueOk (prefetchRequest k g c) := by
  unfold prefetchRequest
  split
  case isTrue => exact law
  case isFalse missing =>
    have fresh : k ∉ queueKeys c := by
      rw [queueKeys_eq]
      simp only [Bool.or_eq_true, not_or] at missing
      simp only [List.mem_append, not_or]
      obtain ⟨⟨-, demand⟩, prefetch⟩ := missing
      exact ⟨not_mem_keys demand, not_mem_keys prefetch⟩
    split
    case isTrue room => exact queueOk_joinPrefetch law fresh room.2 room.1
    case isFalse =>
      split
      case h_1 rest dropped =>
        have shorter := (dropOldest_sublist dropped).2
        refine queueOk_joinPrefetch (queueOk_dropOldest law dropped) (not_mem_dropOldest fresh dropped) ?_ ?_
        · have length := law.1
          unfold queueLength at length ⊢
          dsimp only
          omega
        · obtain ⟨-, prefetched, -⟩ := law
          dsimp only
          omega
      case h_2 => exact law

/-! ### A computation's lookups and prefetches (R86, R92) -/

theorem demand_touchKey (k : Key) (c : Cache) :
    (touchKey k c).demand = c.demand ∧ (touchKey k c).prefetch = c.prefetch := by
  unfold touchKey
  split <;> simp

theorem queueOk_lookup (g : Nat) (k : Key) {r : Lookups} (law : QueueOk r.cache) : QueueOk (lookup g r k).cache := by
  unfold lookup
  split
  · exact queueOk_of_same law (demand_touchKey k r.cache).1 (demand_touchKey k r.cache).2
  · exact queueOk_demandRequest k g law

theorem queueOk_lookupAll (g : Nat) (keys : List Key) {c : Cache} (law : QueueOk c) :
    QueueOk (lookupAll g keys c).cache := by
  have all (r : Lookups) (law : QueueOk r.cache) : QueueOk (keys.foldl (lookup g) r).cache := by
    induction keys generalizing r with
    | nil => exact law
    | cons k ks ih => exact ih _ (queueOk_lookup g k law)
  exact all _ law

theorem queueOk_startBreathing (level power focal anchor : Nat) (t : Option ActiveTable) {c : Cache} (law : QueueOk c) :
    QueueOk (startBreathing level power focal anchor t c).1 := by
  unfold startBreathing
  split
  · exact law
  · split
    · exact law
    · exact queueOk_lookupAll _ _ law

theorem queueOk_startShading (level power focal iris : Nat) (t : Option ActiveTable) {c : Cache} (law : QueueOk c) :
    QueueOk (startShading level power focal iris t c).1 := by
  unfold startShading
  split
  · exact law
  · split
    · exact law
    · exact queueOk_lookupAll _ _ law

theorem queueOk_prefetchKind (kind : TableKind) (d : Direction) (p : Position) (t : Option ActiveTable) {c : Cache}
    (law : QueueOk c) : QueueOk (prefetchKind kind d p t c) := by
  unfold prefetchKind
  split
  case h_1 => exact law
  case h_2 t =>
    generalize prefetchKeys kind d p.power p.focal p.iris t = keys
    induction keys generalizing c with
    | nil => exact law
    | cons k ks ih => exact ih (queueOk_prefetchRequest k _ law)

theorem queueOk_prefetchAll (ms0 : MS0) (level : Nat) (d : Direction) (p : Position) (x : Store) {c : Cache}
    (law : QueueOk c) : QueueOk (prefetchAll ms0 level d p x c) := by
  unfold prefetchAll
  split
  · exact law
  · have breathing : QueueOk (if 1 ≤ level then prefetchKind .breathing d p x.breathing c else c) := by
      split
      · exact queueOk_prefetchKind _ _ _ _ law
      · exact law
    dsimp only
    split
    · exact queueOk_prefetchKind _ _ _ _ breathing
    · exact breathing

theorem queueOk_openComputation (x : Inputs) (p : FramePrediction) {s : State} (law : QueueOk s.cache) :
    QueueOk (openComputation x p s).1 := by
  unfold openComputation
  exact queueOk_prefetchAll _ _ _ _ _ (queueOk_startShading _ _ _ _ _ (queueOk_startBreathing _ _ _ _ _ law))

theorem cache_computeFrame (e : Entry) (x : Inputs) (s : State) : (computeFrame e x s).cache =
    (openComputation x (predictFrame x.ms0 e.target x.copy s) (notePredictions x.ms0 e.target x.copy s)).1 := by
  simp only [computeFrame]
  split <;> simp

/-! ### The effects -/

theorem robust_queueLaw : Robust QueueLaw := robust_of_blind fun _ => Iff.rfl

theorem queueLaw_of_same {s u : State} (law : QueueLaw s) (demand : u.cache.demand = s.cache.demand)
    (prefetch : u.cache.prefetch = s.cache.prefetch) : QueueLaw u := queueOk_of_same law demand prefetch

theorem queueLaw_invalidateKind (k : TableKind) {s : State} (law : QueueLaw s) : QueueLaw (invalidateKind k s) := by
  have filtered : QueueLaw (s.setCache { s.cache with
      sets := s.cache.sets.map fun ways => ways.map (Way.without k),
      demand := s.cache.demand.filter fun e => decide (e.key.kind ≠ k) || e.beingRead,
      prefetch := s.cache.prefetch.filter fun e => decide (e.key.kind ≠ k) || e.beingRead,
      walk := abandonWalking s.cache.walk }) := queueOk_of_filter law _ rfl rfl
  simp only [invalidateKind]
  split <;> exact filtered

theorem queueLaw_withdrawKind (k : TableKind) (n : BitVec 3) {s : State} (law : QueueLaw s) :
    QueueLaw (withdrawKind k n s) := by
  unfold withdrawKind
  split
  case h_1 =>
    split
    case isTrue => exact queueLaw_invalidateKind (s := State.setStore _ s) k law
    case isFalse => exact law
  case h_2 => exact law

theorem queueLaw_beginOnSector (n : BitVec 3) {s : State} (law : QueueLaw s) : QueueLaw (beginOnSector n s) := by
  have withdrawn : QueueLaw (withdrawKind .shading n (withdrawKind .breathing n
      (s.setStore { s.store with verdicts := s.store.verdicts.set n.toNat .unscanned }))) :=
    queueLaw_withdrawKind _ _ (queueLaw_withdrawKind _ _ law)
  simp only [beginOnSector]
  split
  · exact queueLaw_of_same withdrawn (by simp) (by simp)
  · exact withdrawn

theorem queueLaw_scanKind (k : TableKind) {s : State} (law : QueueLaw s) : QueueLaw (scanKind k s) := by
  simp only [scanKind]
  split
  · exact queueLaw_invalidateKind (s := State.setStore _ s) k law
  · exact law

theorem queueLaw_scanResults {s : State} (law : QueueLaw s) : QueueLaw (scanResults s) := by
  unfold scanResults
  refine queueLaw_scanKind _ (queueLaw_scanKind _ (queueLaw_of_same law ?_ ?_)) <;> simp

theorem queueLaw_startSource (x : PortSource) {s : State} (law : QueueLaw s) : QueueLaw (startSource x s) := by
  unfold startSource
  cases x with
  | readStore => exact law
  | walk =>
    dsimp only
    split <;> exact law
  | demand =>
    dsimp only
    split
    · exact queueOk_of_sublist law (by simp [keys_markFirst]) (by simp)
    · exact law
  | prefetch =>
    dsimp only
    split
    · exact queueOk_of_sublist law (by simp) (by simp [keys_markFirst])
    · exact law

theorem queue_walkAdvance (s : State) :
    (walkAdvance s).cache.demand = s.cache.demand ∧ (walkAdvance s).cache.prefetch = s.cache.prefetch := by
  simp only [walkAdvance]
  split <;> simp

theorem queue_markChanged (id : Nat) (s : State) : (markChanged id s).2.cache.demand = s.cache.demand ∧
    (markChanged id s).2.cache.prefetch = s.cache.prefetch := by
  rcases markChanged_snd id s with same | released
  · simp [same]
  · simp [released, unlockAll]

theorem queue_placeCell (k : Key) (cell : Cell) (c : Cache) :
    (placeCell k cell c).demand = c.demand ∧ (placeCell k cell c).prefetch = c.prefetch := by
  unfold placeCell
  split <;> simp

theorem queue_finishWalkRead (k : Key) (cell : Cell) (g : Nat) (d : Bool) (s : State) :
    (finishWalkRead k cell g d s).cache.demand = s.cache.demand ∧
      (finishWalkRead k cell g d s).cache.prefetch = s.cache.prefetch := by
  simp only [finishWalkRead]
  split
  · simp
  · simp only [queue_walkAdvance, cache_setCache]
    split <;> simp [placeLocked, queue_placeCell]

theorem queueLaw_beginWork (o : StoreOp) {s : State} (law : QueueLaw s) : QueueLaw (beginWork o s) := by
  unfold beginWork
  dsimp only
  split
  · exact queueLaw_beginOnSector _ law
  · exact law

theorem queueLaw_finishClearSector (o : StoreOp) (n : BitVec 3) {s : State} (law : QueueLaw s) :
    QueueLaw (finishClearSector o n s) := by
  simp only [finishClearSector]
  split
  · exact queueLaw_of_same law (by simp) (by simp)
  · exact queueLaw_beginOnSector _ (s := State.setStore _ (setFlash _ s)) law

theorem queueLaw_of_apart {s u : State} (law : QueueLaw s) (change : Apart s u) : QueueLaw u := by
  have r := robust_queueLaw
  cases change with
  | markSet => exact queueLaw_of_same law (by simp [setMark, queue_markChanged]) (by simp [setMark, queue_markChanged])
  | markDeleted =>
    unfold deleteMark
    split
    · exact queueLaw_of_same law (by simp) (by simp)
    · exact queueLaw_of_same law (by simp [queue_markChanged]) (by simp [queue_markChanged])
  | pathLocked =>
    exact queueLaw_of_same law (by simp [lockPath, queue_walkAdvance, unlockAll])
      (by simp [lockPath, queue_walkAdvance, unlockAll])
  | pathUnlocked => exact queueLaw_of_same law (by simp [unlockPath, unlockAll]) (by simp [unlockPath, unlockAll])
  | programTaken l t | eraseTaken l t => exact queueLaw_beginOnSector _ (r.startOp (r.received law l t) _ _ _ _)
  | ramChecked =>
    exact queueOk_reset _
  | startScanEnds since t reinit =>
    have scanned := queueLaw_scanResults (r.advanceTo law t)
    refine queueLaw_of_same scanned ?_ ?_ <;> split <;> simp
  | rescanEnds o t => exact r.completeOp (queueLaw_scanResults (r.advanceTo law t)) _ _
  | portReads x => exact queueLaw_startSource x law
  | walkReadEnds => exact queueLaw_of_same law (by simp [queue_finishWalkRead]) (by simp [queue_finishWalkRead])
  | workBegins o => exact queueLaw_beginWork o law
  | clearSectorEnds o n t => exact queueLaw_finishClearSector o n (r.advanceTo law t)
  | _ => exact queueLaw_of_same law (by simp) (by simp)

theorem queueLaw_of_effect (s u : State) (law : QueueLaw s) (effect : Effect s u) : QueueLaw u := by
  have r := robust_queueLaw
  cases effect with
  | quiet change => exact r.quiet law change
  | apart change => exact queueLaw_of_apart law change
  | reinitialized => exact queueOk_reset _
  | resetLeft => exact queueOk_reset _
  | computationBegins e x =>
    rw [queueLaw_iff, cache_computeFrame]
    have law : QueueOk s.cache := law
    exact queueOk_openComputation x _ (by simpa using law)
  | fillEnds k cell since =>
    have removed : QueueOk (removeRead k (endRead since 24 s).cache) :=
      queueOk_of_filter (r.endRead law since 24) _ rfl rfl
    simp only [finishFill]
    split
    · have removed : QueueLaw ((endRead since 24 s).setCache (removeRead k (endRead since 24 s).cache)) := removed
      exact queueLaw_of_same removed (by simp [queue_placeCell]) (by simp [queue_placeCell])
    · exact removed
  | _ => exact queueLaw_of_same law (by simp) (by simp)

/-- Settles O12: a request joins the queue only where a place is left or an entry gives way to it. -/
theorem stepKeepsQueueLaw : Obligations.StepKeepsQueueLaw :=
  robust_queueLaw.step_keeps (fun _ _ _ => queueOk_reset _) queueLaw_of_effect

end Sys2Proof.Machine
end

section
/-! PROOF. The laws of the settings and of the pending frame list: both read frame timing and the engine alone. -/

namespace Sys2Proof.Machine

/-! ### What the pending list's operations keep -/

/-- A change of a computation moves its entry's progress on and, of the engine, the previously delivered values
alone. -/
def Progresses (f : Entry → Computation → Engine → Entry × Engine) : Prop :=
  ∀ e c g, (∃ p, p ≠ .waiting ∧ (f e c g).1 = { e with progress := p }) ∧
    ∃ v, (f e c g).2 = { g with previous := v }

theorem progresses_endComputation : Progresses fun e c g => endComputation e c.holdMissing g := by
  intro e c g
  refine ⟨⟨.ready _, nofun, rfl⟩, ?_⟩
  unfold endComputation
  dsimp only
  split
  · exact ⟨_, rfl⟩
  · exact ⟨g.previous, rfl⟩

/-- What a completed fill does to the computation in progress (R91, R136): the change of `handCell`, which gives the
entry the progress it has where `handCell` leaves it alone. -/
def receiveCell (k : Key) (cell : Cell) (now : Instant) (e : Entry) (c : Computation) (g : Engine) : Entry × Engine :=
  if 0 < instantDiff now e.cutoff then ({ e with progress := .computing c }, g)
  else if (c.receive k cell).settled then endComputation e (c.receive k cell) g
  else ({ e with progress := .computing (c.receive k cell) }, g)

theorem progresses_receiveCell (k : Key) (cell : Cell) (now : Instant) : Progresses (receiveCell k cell now) := by
  intro e c g
  unfold receiveCell
  split
  · exact ⟨⟨.computing c, nofun, rfl⟩, g.previous, rfl⟩
  · split
    · refine ⟨⟨.ready _, nofun, rfl⟩, ?_⟩
      unfold endComputation
      dsimp only
      split
      · exact ⟨_, rfl⟩
      · exact ⟨g.previous, rfl⟩
    · exact ⟨⟨.computing _, nofun, rfl⟩, g.previous, rfl⟩

/-- On the COMPUTING entry itself, leaving the entry alone is giving it the progress it has. -/
theorem withComputing_congr {f h : Entry → Computation → Engine → Entry × Engine}
    (same : ∀ e c g, e.progress = .computing c → f e c g = h e c g) (g : Engine) (es : List Entry) :
    withComputing f g es = withComputing h g es := by
  induction es with
  | nil => rfl
  | cons e es ih =>
    unfold withComputing
    split
    case h_1 c computing => rw [same e c g computing]
    case h_2 => rw [ih]

theorem handCell_eq (k : Key) (cell : Cell) (s : State) :
    handCell k cell s = onComputing (receiveCell k cell s.now) s := by
  unfold handCell onComputing
  rw [withComputing_congr]
  intro e c g computing
  unfold receiveCell
  rw [← computing]

section
variable {f : Entry → Computation → Engine → Entry × Engine} (moves : Progresses f)
include moves

theorem withComputing_map {α : Type} (field : Entry → α) (blind : ∀ e p, field { e with progress := p } = field e)
    (g : Engine) (es : List Entry) : (withComputing f g es).1.map field = es.map field := by
  induction es with
  | nil => rfl
  | cons e es ih =>
    unfold withComputing
    split
    case h_1 c computing =>
      obtain ⟨⟨p, -, moved⟩, -⟩ := moves e c g
      simp [moved, blind]
    case h_2 => simp [ih]

theorem withComputing_engine (g : Engine) (es : List Entry) :
    ∃ v, (withComputing f g es).2 = { g with previous := v } := by
  induction es with
  | nil => exact ⟨g.previous, rfl⟩
  | cons e es ih =>
    unfold withComputing
    split
    case h_1 c computing => exact (moves e c g).2
    case h_2 => exact ih

end

theorem map_setFirstWaiting {α : Type} (field : Entry → α) (blind : ∀ e p, field { e with progress := p } = field e)
    (p : Progress) (es : List Entry) : (setFirstWaiting p es).map field = es.map field := by
  induction es with
  | nil => rfl
  | cons e es ih =>
    unfold setFirstWaiting
    split
    · simp [blind]
    · simp [ih]

theorem map_endStay {α : Type} (field : Entry → α) (blind : ∀ e p, field { e with progress := p } = field e)
    (es : List Entry) : (es.map Entry.endStay).map field = es.map field := by
  rw [List.map_map]
  refine List.map_congr_left fun e _ => ?_
  unfold Function.comp Entry.endStay
  split
  · exact blind _ _
  · rfl

/-! ### The settings (2.4, R24, R131 to R133) -/

/-- What the law of the settings reads. -/
def SettingsOk (format : FrameFormat) (formats : List FrameFormat) (e : Engine) : Prop :=
  FormatInRange format ∧ (∀ f ∈ formats, FormatInRange f) ∧
  e.ms0.Holds MS0.InRange ∧ e.ms1.Holds MS1.InRange ∧ e.ms2.Holds MS2.InRange ∧ e.ms3.Holds MS3.InRange

theorem settingsLaw_iff (s : State) :
    SettingsLaw s ↔ SettingsOk s.timing.format (s.timing.frames.map Entry.format) s.engine := by
  simp [SettingsLaw, SettingsOk]

/-- The settings of a state whose entries' formats are among another's, and whose mode sets are the other's. -/
theorem settingsLaw_of_same {s u : State} (law : SettingsLaw s) (format : u.timing.format = s.timing.format)
    (formats : ∀ f ∈ u.timing.frames.map Entry.format, f ∈ s.timing.frames.map Entry.format)
    (sets : u.engine.ms0 = s.engine.ms0 ∧ u.engine.ms1 = s.engine.ms1 ∧ u.engine.ms2 = s.engine.ms2 ∧
      u.engine.ms3 = s.engine.ms3) : SettingsLaw u := by
  rw [settingsLaw_iff] at law ⊢
  obtain ⟨inForce, entries, modes⟩ := law
  obtain ⟨ms0, ms1, ms2, ms3⟩ := sets
  unfold SettingsOk
  rw [format, ms0, ms1, ms2, ms3]
  exact ⟨inForce, fun f mem => entries f (formats f mem), modes⟩

section
variable {α : Type} {p : α → Prop} {m : ModeSet α} (holds : m.Holds p)
include holds

theorem ModeSet.holds_apply : m.apply.Holds p := by
  unfold ModeSet.apply
  split
  case h_1 x staged => exact ⟨fun y same => by cases same; exact (holds.2 x staged).1, nofun⟩
  case h_2 => exact holds

theorem ModeSet.holds_onSync : m.onSync.Holds p := by
  unfold ModeSet.onSync
  split
  case h_1 x staged =>
    obtain ⟨contents, syncs⟩ := holds.2 x staged
    split
    · exact ⟨fun y same => by cases same; exact contents, nofun⟩
    · exact ⟨holds.1, fun y same => by cases same; exact ⟨contents, by dsimp only; omega⟩⟩
  case h_2 => exact holds

theorem ModeSet.holds_write {x : α} (contents : p x) (staging : Bool) : (m.write staging x).Holds p := by
  unfold ModeSet.write
  split
  · exact ⟨holds.1, fun y same => by cases same; exact ⟨contents, Nat.zero_le 1⟩⟩
  · exact ⟨fun y same => by cases same; exact contents, nofun⟩

end

theorem settingsLaw_setsApplied {s : State} (law : SettingsLaw s) : SettingsLaw (s.setEngine { s.engine with
    ms0 := s.engine.ms0.apply, ms1 := s.engine.ms1.apply, ms2 := s.engine.ms2.apply,
    ms3 := s.engine.ms3.apply }) := by
  obtain ⟨format, entries, ms0, ms1, ms2, ms3⟩ := law
  exact ⟨format, entries, ModeSet.holds_apply ms0, ModeSet.holds_apply ms1, ModeSet.holds_apply ms2,
    ModeSet.holds_apply ms3⟩

theorem settingsLaw_stayEnds {s : State} (law : SettingsLaw s) :
    SettingsLaw (s.setTiming { s.timing with frames := s.timing.frames.map Entry.endStay }) := by
  refine settingsLaw_of_same law rfl ?_ ⟨rfl, rfl, rfl, rfl⟩
  rw [timing_setTiming, map_endStay Entry.format fun _ _ => rfl]
  exact fun _ mem => mem

theorem ofTiming_settingsLaw : OfTiming SettingsLaw where
  pending _ law := law
  free _ law := law
  time _ law := law
  links _ law := law
  events _ _ law := law
  outcome _ _ _ law := law
  reinit _ law := law
  op _ _ law := law
  waiting _ law := law
  portFreed law := law
  readsDropped law := law
  engineMoves _ _ _ _ law := law
  setsApplied law := settingsLaw_setsApplied law
  framesDiscarded law := settingsLaw_of_same law rfl nofun ⟨rfl, rfl, rfl, rfl⟩
  stayEnds law := settingsLaw_stayEnds law
  seq _ _ law := law
  front _ law := law
  store _ law := law
  cache _ law := law
  auth _ law := law

theorem formatInRange_formatOf (p : List Byte) : FormatInRange (formatOf p) := by
  unfold FormatInRange formatOf
  have bounds (lo hi x : Nat) (h : lo ≤ hi) := And.intro (le_clampNat lo hi x h) (clampNat_le lo hi x h)
  exact ⟨(bounds 1000 30000 _ (by omega)).1, (bounds 1000 30000 _ (by omega)).2, (bounds 0 100000 _ (by omega)).2,
    (bounds 0 200000 _ (by omega)).2, (bounds 500 100000 _ (by omega)).1, (bounds 500 100000 _ (by omega)).2,
    (bounds 1 1000000 _ (by omega)).1, (bounds 1 1000000 _ (by omega)).2, (bounds 0 100000 _ (by omega)).2⟩

theorem formatInRange_infoOf {f : FrameFormat} (p : List Byte) (law : FormatInRange f) :
    FormatInRange (infoOf p f) := by
  obtain ⟨hd, hd', margin, crop, due, due', -⟩ := law
  exact ⟨hd, hd', margin, crop, due, due', le_clampNat 1 1000000 _ (by omega), clampNat_le 1 1000000 _ (by omega),
    clampNat_le 0 100000 _ (by omega)⟩

theorem formatInRange_reset : FormatInRange .reset := by
  simp [FormatInRange, FrameFormat.reset]

theorem inRange_ms0Of (p : List Byte) : (ms0Of p).InRange := by
  have low := le_clampNat 500 8000 (field16 p 1) (by omega)
  have high := clampNat_le 500 8000 (field16 p 1) (by omega)
  have span : clampSpan (field16 p 1) = clampNat 500 8000 (field16 p 1) / 500 * 500 := rfl
  refine ⟨?_, ?_, ?_, clampNat_le 0 20000 _ (by omega), clampNat_le 0 64 _ (by omega),
    le_clampNat 300 8000 _ (by omega), clampNat_le 300 8000 _ (by omega)⟩
  · change 500 ≤ clampSpan _; omega
  · change clampSpan _ ≤ 8000; omega
  · change clampSpan _ % 500 = 0; omega

theorem inRange_ms1Of (p : List Byte) : (ms1Of p).InRange :=
  ⟨clampNat_le 0 100 _ (by omega), clampNat_le 0 50000 _ (by omega)⟩

theorem inRange_ms2Of (p : List Byte) : (ms2Of p).InRange :=
  ⟨clampNat_le 0 100 _ (by omega), le_clampNat 4096 32767 _ (by omega), clampNat_le 4096 32767 _ (by omega)⟩

theorem inRange_ms3Of (p : List Byte) : (ms3Of p).InRange :=
  ⟨le_clampNat 100 1000 _ (by omega), clampNat_le 100 1000 _ (by omega)⟩

theorem settingsLaw_writeSet (b : Bool) (p : List Byte) {s : State} (law : SettingsLaw s) :
    SettingsLaw (s.setEngine (writeSet b p s.engine)) := by
  obtain ⟨format, entries, ms0, ms1, ms2, ms3⟩ := law
  unfold writeSet
  split
  · exact ⟨format, entries, ModeSet.holds_write ms0 (inRange_ms0Of p) b, ms1, ms2, ms3⟩
  · exact ⟨format, entries, ms0, ModeSet.holds_write ms1 (inRange_ms1Of p) b, ms2, ms3⟩
  · exact ⟨format, entries, ms0, ms1, ModeSet.holds_write ms2 (inRange_ms2Of p) b, ms3⟩
  · exact ⟨format, entries, ms0, ms1, ms2, ModeSet.holds_write ms3 (inRange_ms3Of p) b⟩

theorem settingsLaw_setProgress (p : Progress) {s : State} (law : SettingsLaw s) : SettingsLaw (setProgress p s) :=
  settingsLaw_of_same law rfl (by
    simp only [setProgress, timing_setTiming, map_setFirstWaiting Entry.format fun _ _ => rfl, imp_self, implies_true])
    ⟨rfl, rfl, rfl, rfl⟩

theorem settingsLaw_onComputing {f : Entry → Computation → Engine → Entry × Engine} (moves : Progresses f) {s : State}
    (law : SettingsLaw s) : SettingsLaw (onComputing f s) := by
  obtain ⟨v, engine⟩ := withComputing_engine moves s.engine s.timing.frames
  refine settingsLaw_of_same law rfl ?_ ?_
  · change ∀ x ∈ (withComputing f s.engine s.timing.frames).1.map Entry.format, _
    rw [withComputing_map moves Entry.format fun _ _ => rfl]
    exact fun _ mem => mem
  · change (withComputing f s.engine s.timing.frames).2.ms0 = _ ∧ (withComputing f s.engine s.timing.frames).2.ms1 = _ ∧
      (withComputing f s.engine s.timing.frames).2.ms2 = _ ∧ (withComputing f s.engine s.timing.frames).2.ms3 = _
    rw [engine]
    exact ⟨rfl, rfl, rfl, rfl⟩

theorem settingsLaw_notePredictions {m : MS0} {t : Instant} {cp : MapCopy} {s : State} (law : SettingsLaw s) :
    SettingsLaw (notePredictions m t cp s) := by
  have noted (a : Axis) (p : Option AxisPrediction) {u : State} (law : SettingsLaw u) :
      SettingsLaw (notePrediction a cp p u) := by
    unfold notePrediction
    split
    · exact law
    · refine ofTiming_settingsLaw.raiseIf (ofTiming_settingsLaw.front _ ?_) _ _
      exact law
  exact noted .iris _ (noted .zoom _ (noted .focus _ law))

theorem settingsLaw_computeFrame (e : Entry) (x : Inputs) {s : State} (law : SettingsLaw s) :
    SettingsLaw (computeFrame e x s) := by
  simp only [computeFrame]
  split
  · exact settingsLaw_onComputing progresses_endComputation (settingsLaw_setProgress _
      (ofTiming_settingsLaw.cache _ (settingsLaw_notePredictions law)))
  · exact settingsLaw_setProgress _ (ofTiming_settingsLaw.cache _ (settingsLaw_notePredictions law))

theorem settingsLaw_computePattern (e : Entry) (x : Inputs) {s : State} (law : SettingsLaw s) :
    SettingsLaw (computePattern e x s) :=
  settingsLaw_setProgress _ (s := State.setEngine _ _) (settingsLaw_notePredictions law)

theorem settingsLaw_countStaged {s : State} (law : SettingsLaw s) : SettingsLaw (countStaged s) := by
  have r := ofTiming_settingsLaw
  obtain ⟨format, entries, ms0, ms1, ms2, ms3⟩ := law
  have counted : SettingsLaw (s.setEngine { s.engine with
      ms0 := s.engine.ms0.onSync, ms1 := s.engine.ms1.onSync, ms2 := s.engine.ms2.onSync,
      ms3 := s.engine.ms3.onSync }) :=
    ⟨format, entries, ModeSet.holds_onSync ms0, ModeSet.holds_onSync ms1, ModeSet.holds_onSync ms2,
      ModeSet.holds_onSync ms3⟩
  simp only [countStaged]
  split
  · exact r.followSelection (r.raiseIf counted _ _)
  · exact r.raiseIf counted _ _

theorem settingsLaw_decideSync {s : State} (law : SettingsLaw s) : SettingsLaw (decideSync s) := by
  unfold decideSync
  split
  case h_1 ms0 ms3 _ _ =>
    split
    case isTrue =>
      obtain ⟨format, entries, sets⟩ := law
      refine ⟨format, fun e mem => ?_, sets⟩
      rcases List.mem_append.1 mem with mem | mem
      · exact entries e mem
      · cases List.mem_singleton.1 mem
        exact format
    case isFalse => exact law
  case h_2 => exact law

theorem settingsLaw_applyEdge {s : State} (law : SettingsLaw s) : SettingsLaw (applyEdge s) := by
  have r := ofTiming_settingsLaw
  have after {u : State} (law : SettingsLaw u) : SettingsLaw (afterSync u) :=
    r.reevaluate (settingsLaw_decideSync (settingsLaw_countStaged law))
  unfold applyEdge
  split
  · exact law
  · refine after (r.raise ?_ _)
    exact r.stopIfNeeded (s := State.setTiming _ s) law
  · exact after (u := State.setTiming _ s) law

theorem settingsLaw_reset {s : State} (timing : s.timing = .reset s.timing.timebase) (engine : s.engine = .reset) :
    SettingsLaw s := by
  rw [settingsLaw_iff, timing, engine]
  refine ⟨formatInRange_reset, nofun, ?_⟩
  exact ⟨⟨nofun, nofun⟩, ⟨nofun, nofun⟩, ⟨nofun, nofun⟩, nofun, nofun⟩

theorem settingsLaw_of_effect (s u : State) (law : SettingsLaw s) (effect : Effect s u) : SettingsLaw u := by
  have r := ofTiming_settingsLaw
  cases effect with
  | quiet change => exact r.quiet law change
  | apart change => exact r.apart law change
  | formatReplaced l t p =>
    refine r.replyOk ?_ _ _ _
    exact ⟨formatInRange_formatOf p, law.2⟩
  | infoReplaced l t p =>
    refine r.replyOk ?_ _ _ _
    exact ⟨formatInRange_infoOf p law.1, law.2⟩
  | modeWritten l t p => exact r.writeMode l (settingsLaw_writeSet _ p (r.received law l t))
  | reinitialized => exact settingsLaw_reset rfl rfl
  | resetLeft => exact settingsLaw_reset rfl rfl
  | edgeCaptured t => exact settingsLaw_applyEdge (r.advanceTo law t)
  | streamLost t =>
    refine r.reevaluate (r.raise ?_ _)
    exact law
  | patternComputed e x => exact settingsLaw_computePattern e x (r.advanceTo law e.compute)
  | computationBegins e x => exact settingsLaw_computeFrame e x (r.advanceTo law e.compute)
  | cutOff t => exact settingsLaw_onComputing progresses_endComputation (r.advanceTo law t)
  | recordLeaves e d rest frames =>
    refine r.handOver e d ?_
    exact settingsLaw_of_same law rfl (by rw [frames]; exact fun _ mem => List.mem_cons_of_mem _ mem)
      ⟨rfl, rfl, rfl, rfl⟩
  | fillEnds k cell since =>
    simp only [finishFill]
    split
    · rw [handCell_eq]
      refine settingsLaw_onComputing (progresses_receiveCell _ _ _) ?_
      exact r.endRead law since 24
    · exact r.endRead law since 24

/-- Settles O16: every setting is written clamped, and an entry takes a copy of the format in force. -/
theorem stepKeepsSettingsLaw : Obligations.StepKeepsSettingsLaw :=
  ofTiming_settingsLaw.step_keeps (fun _ _ _ => settingsLaw_reset rfl rfl) settingsLaw_of_effect

end Sys2Proof.Machine
end

section
/-! PROOF. The law of the pending frame list. -/

namespace Sys2Proof.Machine

/-! ### The order of progress (R32) -/

theorem allWaiting_nil : allWaiting [] := by simp [allWaiting]

theorem progressOrder_of_allWaiting {es : List Entry} (waits : allWaiting es) : ProgressOrder es := by
  cases es with
  | nil => trivial
  | cons e es =>
    have first : e.progress = .waiting := waits e (by simp)
    unfold ProgressOrder
    rw [first]
    exact fun x mem => waits x (by simp [mem])

theorem progressOrder_cons_ready {e : Entry} {es : List Entry} {d : Delivered} (ready : e.progress = .ready d) :
    ProgressOrder (e :: es) ↔ ProgressOrder es := by
  simp [ProgressOrder, ready]

theorem progressOrder_cons_computing {e : Entry} {es : List Entry} {c : Computation}
    (computing : e.progress = .computing c) : ProgressOrder (e :: es) ↔ allWaiting es := by
  simp [ProgressOrder, computing]

theorem progressOrder_cons_waiting {e : Entry} {es : List Entry} (waiting : e.progress = .waiting) :
    ProgressOrder (e :: es) ↔ allWaiting es := by
  simp [ProgressOrder, waiting]

/-- An entry that does not wait may stand before waiting ones. -/
theorem progressOrder_cons_of_allWaiting {e : Entry} {es : List Entry} (waits : allWaiting es) :
    ProgressOrder (e :: es) := by
  cases progress : e.progress with
  | waiting => exact (progressOrder_cons_waiting progress).2 waits
  | computing c => exact (progressOrder_cons_computing progress).2 waits
  | ready d => exact (progressOrder_cons_ready progress).2 (progressOrder_of_allWaiting waits)

theorem progressOrder_append_waiting {es : List Entry} {e : Entry} (order : ProgressOrder es)
    (waiting : e.progress = .waiting) : ProgressOrder (es ++ [e]) := by
  have joined {es : List Entry} (waits : allWaiting es) : allWaiting (es ++ [e]) := by
    intro x mem
    rcases List.mem_append.1 mem with mem | mem
    · exact waits x mem
    · cases List.mem_singleton.1 mem
      exact waiting
  induction es with
  | nil => exact progressOrder_cons_of_allWaiting allWaiting_nil
  | cons x xs ih =>
    rw [List.cons_append]
    cases progress : x.progress with
    | waiting => exact (progressOrder_cons_waiting progress).2 (joined ((progressOrder_cons_waiting progress).1 order))
    | computing c =>
      exact (progressOrder_cons_computing progress).2 (joined ((progressOrder_cons_computing progress).1 order))
    | ready d => exact (progressOrder_cons_ready progress).2 (ih ((progressOrder_cons_ready progress).1 order))

theorem progressOrder_endStay {es : List Entry} (order : ProgressOrder es) :
    ProgressOrder (es.map Entry.endStay) := by
  have waits {es : List Entry} (waits : allWaiting es) : allWaiting (es.map Entry.endStay) := by
    intro x mem
    obtain ⟨y, inList, rfl⟩ := List.mem_map.1 mem
    have waiting : y.progress = .waiting := waits y inList
    simp [Entry.endStay, waiting]
  induction es with
  | nil => trivial
  | cons x xs ih =>
    rw [List.map_cons]
    cases progress : x.progress with
    | waiting => exact progressOrder_cons_of_allWaiting (waits ((progressOrder_cons_waiting progress).1 order))
    | computing c => exact progressOrder_cons_of_allWaiting (waits ((progressOrder_cons_computing progress).1 order))
    | ready d =>
      have kept : x.endStay.progress = .ready d := by simp [Entry.endStay, progress]
      exact (progressOrder_cons_ready kept).2 (ih ((progressOrder_cons_ready progress).1 order))

theorem progressOrder_withComputing {f : Entry → Computation → Engine → Entry × Engine} (g : Engine)
    {es : List Entry} (order : ProgressOrder es) : ProgressOrder (withComputing f g es).1 := by
  induction es with
  | nil => trivial
  | cons x xs ih =>
    unfold withComputing
    split
    case h_1 c computing => exact progressOrder_cons_of_allWaiting ((progressOrder_cons_computing computing).1 order)
    case h_2 idle =>
      dsimp only
      cases progress : x.progress with
      | computing c => exact absurd progress (idle c)
      | ready d => exact (progressOrder_cons_ready progress).2 (ih ((progressOrder_cons_ready progress).1 order))
      | waiting =>
        have waits := (progressOrder_cons_waiting progress).1 order
        have still : (withComputing f g xs).1 = xs := by
          clear ih order
          induction xs with
          | nil => rfl
          | cons y ys ih =>
            have first : y.progress = .waiting := waits y (by simp)
            unfold withComputing
            simp [first, ih fun z mem => waits z (by simp [mem])]
        rw [still]
        exact (progressOrder_cons_waiting progress).2 waits

theorem progressOrder_setFirstWaiting (p : Progress) {es : List Entry} (order : ProgressOrder es)
    (idle : computingEntry es = none) : ProgressOrder (setFirstWaiting p es) := by
  induction es with
  | nil => trivial
  | cons x xs ih =>
    unfold setFirstWaiting
    split
    case isTrue waiting => exact progressOrder_cons_of_allWaiting ((progressOrder_cons_waiting waiting).1 order)
    case isFalse moved =>
      cases progress : x.progress with
      | waiting => exact absurd progress moved
      | computing c => simp [computingEntry, progress] at idle
      | ready d =>
        refine (progressOrder_cons_ready progress).2 (ih ((progressOrder_cons_ready progress).1 order) ?_)
        simpa [computingEntry, progress] using idle

/-! ### The order of due instants (R28) -/

/-- One due instant does not come before another. -/
def DueAfter (a b : Instant) : Prop := 0 ≤ instantDiff b a

theorem dueRises_iff (es : List Entry) : DueRises es ↔ (es.map Entry.due).IsChain DueAfter := by
  induction es with
  | nil => simp [DueRises]
  | cons a rest ih =>
    cases rest with
    | nil => simp [DueRises]
    | cons b rest =>
      simp only [DueRises, List.map_cons, List.isChain_cons_cons] at ih ⊢
      rw [ih]
      rfl

theorem dueAfter_laterOf (a b : Instant) : DueAfter b (laterOf a b) := by
  unfold DueAfter laterOf
  split
  case isTrue later => omega
  case isFalse => simp [instantDiff]

theorem dueRises_append {es : List Entry} {e : Entry} (rises : DueRises es)
    (after : ∀ x, es.getLast? = some x → DueAfter x.due e.due) : DueRises (es ++ [e]) := by
  rw [dueRises_iff] at rises ⊢
  rw [List.map_append, List.isChain_append]
  refine ⟨rises, .singleton _, fun a last b first => ?_⟩
  rw [List.getLast?_map, Option.mem_def, Option.map_eq_some_iff] at last
  obtain ⟨x, last, rfl⟩ := last
  obtain rfl : e.due = b := by simpa using first
  exact after x last

theorem dueRises_newEntry {ms0 : MS0} {ms3 : MS3} {t : Timing} {sync : Instant} (rises : DueRises t.frames) :
    DueRises (t.frames ++ [newEntry ms0 ms3 t sync]) := by
  refine dueRises_append rises fun x last => ?_
  have due : (newEntry ms0 ms3 t sync).due = laterOf (addInterval sync t.format.dueOffset) x.due := by
    simp [newEntry, dueOf, last]
  rw [due]
  exact dueAfter_laterOf _ _

/-! ### The list -/

/-- The law of the pending list. -/
def FramesOk (frames : List Entry) (skip : Nat) : Prop :=
  frames.length ≤ 8 ∧ ProgressOrder frames ∧ DueRises frames ∧ skip ≤ 255

theorem frameLaw_iff (s : State) : FrameLaw s ↔ FramesOk s.timing.frames s.timing.skip := Iff.rfl

theorem frameLaw_of_same {s u : State} (law : FrameLaw s) (frames : u.timing.frames = s.timing.frames)
    (skip : u.timing.skip = s.timing.skip) : FrameLaw u := by
  rw [frameLaw_iff, frames, skip]
  exact law

theorem addSkips_le (skip n : Nat) : addSkips skip n ≤ 255 := Nat.min_le_left _ _

theorem skip_discardFrames {t : Timing} (h : t.skip ≤ 255) : (discardFrames t).skip ≤ 255 := by
  change t.frames.foldl (fun n e => addSkips n (e.skipped + 1)) t.skip ≤ 255
  generalize t.skip = n at h
  induction t.frames generalizing n with
  | nil => exact h
  | cons e es ih => exact ih _ (addSkips_le _ _)

theorem frameLaw_framesDiscarded {s : State} (law : FrameLaw s) : FrameLaw (s.setTiming (discardFrames s.timing)) := by
  obtain ⟨-, -, -, skip⟩ := law
  exact ⟨Nat.zero_le 8, trivial, trivial, skip_discardFrames skip⟩

theorem frameLaw_stayEnds {s : State} (law : FrameLaw s) :
    FrameLaw (s.setTiming { s.timing with frames := s.timing.frames.map Entry.endStay }) := by
  obtain ⟨length, order, due, skip⟩ := law
  refine ⟨?_, progressOrder_endStay order, ?_, skip⟩
  · simpa using length
  · rw [dueRises_iff] at due ⊢
    rw [timing_setTiming, map_endStay Entry.due fun _ _ => rfl]
    exact due

theorem ofTiming_frameLaw : OfTiming FrameLaw where
  pending _ law := law
  free _ law := law
  time _ law := law
  links _ law := law
  events _ _ law := law
  outcome _ _ _ law := law
  reinit _ law := law
  op _ _ law := law
  waiting _ law := law
  portFreed law := law
  readsDropped law := law
  engineMoves _ _ _ _ law := law
  setsApplied law := law
  framesDiscarded law := frameLaw_framesDiscarded law
  stayEnds law := frameLaw_stayEnds law
  seq _ _ law := law
  front _ law := law
  store _ law := law
  cache _ law := law
  auth _ law := law

theorem frameLaw_setProgress (p : Progress) {s : State} (law : FrameLaw s)
    (idle : computingEntry s.timing.frames = none) : FrameLaw (setProgress p s) := by
  obtain ⟨length, order, due, skip⟩ := law
  refine ⟨?_, progressOrder_setFirstWaiting p order idle, ?_, skip⟩
  · have same := congrArg List.length (map_setFirstWaiting Entry.due (fun _ _ => rfl) p s.timing.frames)
    simp only [List.length_map] at same
    simpa [setProgress, same] using length
  · rw [dueRises_iff] at due ⊢
    simpa only [setProgress, timing_setTiming, map_setFirstWaiting Entry.due fun _ _ => rfl] using due

theorem frameLaw_onComputing {f : Entry → Computation → Engine → Entry × Engine} (moves : Progresses f) {s : State}
    (law : FrameLaw s) : FrameLaw (onComputing f s) := by
  obtain ⟨length, order, due, skip⟩ := law
  refine ⟨?_, progressOrder_withComputing s.engine order, ?_, skip⟩
  · have same := congrArg List.length (withComputing_map moves Entry.due (fun _ _ => rfl) s.engine s.timing.frames)
    simp only [List.length_map] at same
    simpa [onComputing, same] using length
  · rw [dueRises_iff] at due ⊢
    simpa only [onComputing, timing_setEngine, timing_setTiming,
      withComputing_map moves Entry.due fun _ _ => rfl] using due

theorem computingEntry_of_startable {s : State} {e : Entry} {x : Inputs} (starts : startable s = some (e, x)) :
    computingEntry s.timing.frames = none := by
  unfold startable at starts
  split at starts
  case isTrue => cases starts
  case isFalse h =>
    simp only [Bool.or_eq_true, not_or, Option.not_isSome_iff_eq_none] at h
    exact h.2

theorem frameLaw_computePattern (e : Entry) (x : Inputs) {s : State} (law : FrameLaw s)
    (idle : computingEntry s.timing.frames = none) : FrameLaw (computePattern e x s) :=
  frameLaw_setProgress _ (frameLaw_of_same law (by simp) (by simp)) (by simpa using idle)

theorem frameLaw_computeFrame (e : Entry) (x : Inputs) {s : State} (law : FrameLaw s)
    (idle : computingEntry s.timing.frames = none) : FrameLaw (computeFrame e x s) := by
  have begun (c : Computation) (cache : Cache) :
      FrameLaw (setProgress (.computing c) ((notePredictions x.ms0 e.target x.copy s).setCache cache)) :=
    frameLaw_setProgress _ (frameLaw_of_same law (by simp) (by simp)) (by simpa using idle)
  simp only [computeFrame]
  split
  · exact frameLaw_onComputing progresses_endComputation (begun _ _)
  · exact begun _ _

theorem frameLaw_countStaged {s : State} (law : FrameLaw s) : FrameLaw (countStaged s) := by
  have r := ofTiming_frameLaw
  simp only [countStaged]
  split
  · refine r.followSelection (r.raiseIf ?_ _ _)
    exact law
  · refine r.raiseIf ?_ _ _
    exact law

theorem frameLaw_skipSync {s : State} (law : FrameLaw s) : FrameLaw (skipSync s) := by
  obtain ⟨length, order, due, -⟩ := law
  exact ⟨length, order, due, addSkips_le _ _⟩

theorem frameLaw_decideSync {s : State} (law : FrameLaw s) : FrameLaw (decideSync s) := by
  unfold decideSync
  split
  case h_1 ms0 ms3 _ _ =>
    split
    case isTrue room =>
      obtain ⟨-, -, free⟩ := room
      obtain ⟨-, order, due, -⟩ := law
      refine ⟨?_, progressOrder_append_waiting order rfl, dueRises_newEntry due, Nat.zero_le 255⟩
      rw [timing_setTiming, List.length_append]
      exact free
    case isFalse => exact frameLaw_skipSync law
  case h_2 => exact frameLaw_skipSync law

theorem frameLaw_applyEdge {s : State} (law : FrameLaw s) : FrameLaw (applyEdge s) := by
  have r := ofTiming_frameLaw
  have after {u : State} (law : FrameLaw u) : FrameLaw (afterSync u) :=
    r.reevaluate (frameLaw_decideSync (frameLaw_countStaged law))
  unfold applyEdge
  split
  · exact law
  · have begun := r.stopIfNeeded (s := s.setTiming { s.timing with
      stream := .acquiring, lastSync := some s.now, period := 0, frameNumber := 0 }) law
    obtain ⟨length, order, due, -⟩ := begun
    refine after (r.raise ?_ _)
    exact ⟨length, order, due, Nat.zero_le 255⟩
  · exact after (u := State.setTiming _ s) law

theorem frameLaw_recordLeaves {s : State} {e : Entry} {d : Delivered} {rest : List Entry}
    (frames : s.timing.frames = e :: rest) (ready : e.progress = .ready d) (law : FrameLaw s) :
    FrameLaw (s.setTiming { s.timing with frames := rest }) := by
  rw [frameLaw_iff, frames] at law
  obtain ⟨length, order, due, skip⟩ := law
  refine ⟨?_, (progressOrder_cons_ready ready).1 order, ?_, skip⟩
  · exact (Nat.le_succ _).trans length
  · rw [dueRises_iff] at due ⊢
    exact due.tail

theorem frameLaw_reset {s : State} (timing : s.timing = .reset s.timing.timebase) : FrameLaw s := by
  rw [frameLaw_iff, timing]
  exact ⟨Nat.zero_le 8, trivial, trivial, Nat.zero_le 255⟩

theorem frameLaw_of_effect (s u : State) (law : FrameLaw s) (effect : Effect s u) : FrameLaw u := by
  have r := ofTiming_frameLaw
  cases effect with
  | quiet change => exact r.quiet law change
  | apart change => exact r.apart law change
  | formatReplaced l t | infoReplaced l t =>
    refine r.replyOk ?_ _ _ _
    exact law
  | modeWritten l t p =>
    refine r.writeMode l ?_
    exact law
  | reinitialized => exact frameLaw_reset rfl
  | resetLeft => exact frameLaw_reset rfl
  | edgeCaptured t => exact frameLaw_applyEdge (r.advanceTo law t)
  | streamLost t =>
    refine r.reevaluate (r.raise ?_ _)
    exact law
  | patternComputed e x starts =>
    exact frameLaw_computePattern e x (r.advanceTo law e.compute) (computingEntry_of_startable starts)
  | computationBegins e x starts =>
    exact frameLaw_computeFrame e x (r.advanceTo law e.compute) (computingEntry_of_startable starts)
  | cutOff t => exact frameLaw_onComputing progresses_endComputation (r.advanceTo law t)
  | recordLeaves e d rest frames ready =>
    refine r.handOver e d ?_
    exact frameLaw_recordLeaves (s := advanceTo e.due s) frames ready law
  | fillEnds k cell since =>
    simp only [finishFill]
    split
    · rw [handCell_eq]
      refine frameLaw_onComputing (progresses_receiveCell _ _ _) ?_
      exact r.endRead law since 24
    · exact r.endRead law since 24

/-- Settles O13: entries join at the end WAITING and due no earlier, move through their progress in order, and leave
from the front. -/
theorem stepKeepsFrameLaw : Obligations.StepKeepsFrameLaw :=
  ofTiming_frameLaw.step_keeps (fun _ _ _ => frameLaw_reset rfl) frameLaw_of_effect

end Sys2Proof.Machine
end

section
/-! PROOF. The sets and ways of the cell cache: what touching, placing, locking, unlocking and invalidating do to the
law of a set. -/

namespace Sys2Proof.Machine

/-! ### Ways at an index -/

theorem exists_split_of_getElem? {α : Type} {xs : List α} {i : Nat} {x : α} (h : xs[i]? = some x) :
    ∃ pre post, xs = pre ++ x :: post ∧ pre.length = i := by
  obtain ⟨inside, rfl⟩ := List.getElem?_eq_some_iff.1 h
  refine ⟨xs.take i, xs.drop (i + 1), ?_, by simp [inside.le]⟩
  rw [← List.drop_eq_getElem_cons inside, List.take_append_drop]

/-- Moving a way to rank 0 raises the ranks below its own (R85). -/
def raiseBelow (r v : Nat) : Nat := if v < r then v + 1 else v

theorem touchWay_split (pre post : List Way) (w : Way) : touchWay pre.length (pre ++ w :: post) =
    pre.map (fun v => { v with rank := raiseBelow w.rank v.rank }) ++ { w with rank := 0 } ::
      post.map (fun v => { v with rank := raiseBelow w.rank v.rank }) := by
  have raise : (fun v : Way => if v.rank < w.rank then { v with rank := v.rank + 1 } else v) =
      fun v => { v with rank := raiseBelow w.rank v.rank } := by
    funext v
    unfold raiseBelow
    split <;> rfl
  simp [touchWay, raise]

theorem fillWay_split (pre post : List Way) (w : Way) (c : WayContent) : fillWay pre.length c (pre ++ w :: post) =
    pre ++ { w with content := some c } :: post := by
  simp [fillWay]

/-! ### Ranks -/

theorem perm_ranks_iff (rs : List Nat) : rs.Perm [0, 1, 2, 3] ↔ rs.Nodup ∧ rs.length = 4 ∧ ∀ r ∈ rs, r < 4 := by
  constructor
  · intro perm
    refine ⟨perm.nodup_iff.2 (by decide), perm.length_eq, fun r mem => ?_⟩
    have mem := perm.mem_iff.1 mem
    simp only [List.mem_cons, List.not_mem_nil, or_false] at mem
    omega
  · rintro ⟨nodup, length, bounds⟩
    have subset : rs.toFinset ⊆ Finset.range 4 := fun r mem => Finset.mem_range.2 (bounds r (List.mem_toFinset.1 mem))
    have card : rs.toFinset.card = 4 := by rw [List.toFinset_card_of_nodup nodup, length]
    refine List.perm_of_nodup_nodup_toFinset_eq nodup (by decide) ?_
    exact Finset.eq_of_subset_of_card_le subset (by rw [card]; decide)

/-- The most recently used way at rank 0, and those that were before it moved down by one, are ranks 0 to 3 again. -/
theorem perm_raiseBelow {r : Nat} {rs : List Nat} (perm : (r :: rs).Perm [0, 1, 2, 3]) :
    (0 :: rs.map (raiseBelow r)).Perm [0, 1, 2, 3] := by
  rw [perm_ranks_iff] at perm ⊢
  obtain ⟨nodup, length, bounds⟩ := perm
  obtain ⟨apart, nodup⟩ := List.nodup_cons.1 nodup
  have other {v : Nat} (mem : v ∈ rs) : v ≠ r := fun same => apart (same ▸ mem)
  refine ⟨List.nodup_cons.2 ⟨fun zero => ?_, ?_⟩, by simpa using length, fun x mem => ?_⟩
  · obtain ⟨v, mem, zero⟩ := List.mem_map.1 zero
    have differs := other mem
    unfold raiseBelow at zero
    split at zero <;> omega
  · refine List.Nodup.map_on (fun v memV w memW same => ?_) nodup
    have differsV := other memV
    have differsW := other memW
    unfold raiseBelow at same
    split at same <;> split at same <;> omega
  · have first := bounds r (by simp)
    rcases List.mem_cons.1 mem with rfl | mem
    · omega
    · obtain ⟨v, inRest, rfl⟩ := List.mem_map.1 mem
      have bound := bounds v (by simp [inRest])
      unfold raiseBelow
      split <;> omega

/-! ### The law of a set -/

/-- The keys of a set's valid ways. -/
def wayKeys (ways : List Way) : List Key := ways.filterMap fun w => w.content.map WayContent.key

theorem holds_iff (k : Key) (w : Way) : w.holds k = true ↔ w.content.map WayContent.key = some k := by
  unfold Way.holds
  cases w.content <;> simp

theorem mem_wayKeys {k : Key} {ways : List Way} : k ∈ wayKeys ways ↔ ∃ w ∈ ways, w.holds k = true := by
  simp only [wayKeys, List.mem_filterMap, holds_iff]

theorem setLaw_iff (i : Nat) (ways : List Way) : SetLaw i ways ↔
    (ways.map Way.rank).Perm [0, 1, 2, 3] ∧ lockedCount ways ≤ 3 ∧ (∀ k ∈ wayKeys ways, setIndex k = i) ∧
      (wayKeys ways).Nodup := by
  have placed : (∀ w ∈ ways, ∀ c, w.content = some c → setIndex c.key = i) ↔ ∀ k ∈ wayKeys ways, setIndex k = i := by
    simp only [wayKeys, List.mem_filterMap, Option.map_eq_some_iff]
    exact ⟨fun h k ⟨w, mem, c, content, same⟩ => same ▸ h w mem c content,
      fun h w mem c content => h _ ⟨w, mem, c, content, rfl⟩⟩
  unfold SetLaw
  rw [placed]
  constructor
  · rintro ⟨-, law⟩
    exact law
  · intro law
    exact ⟨by simpa using law.1.length_eq, law⟩

/-- A set whose ways hold the same keys, in order, and no more locks. -/
theorem setLaw_of_same {i : Nat} {ways ways' : List Way} (law : SetLaw i ways)
    (ranks : (ways'.map Way.rank).Perm [0, 1, 2, 3]) (locked : lockedCount ways' ≤ 3)
    (keys : (wayKeys ways').Sublist (wayKeys ways)) : SetLaw i ways' := by
  rw [setLaw_iff] at law ⊢
  obtain ⟨-, -, placed, nodup⟩ := law
  exact ⟨ranks, locked, fun k mem => placed k (keys.subset mem), nodup.sublist keys⟩

theorem lockedCount_append (xs ys : List Way) : lockedCount (xs ++ ys) = lockedCount xs + lockedCount ys :=
  List.countP_append

theorem lockedCount_cons (w : Way) (ws : List Way) :
    lockedCount (w :: ws) = lockedCount ws + if w.isLocked then 1 else 0 := by
  simp [lockedCount, List.countP_cons]

theorem lockedCount_map {f : Way → Way} (same : ∀ w, (f w).isLocked = w.isLocked) (ways : List Way) :
    lockedCount (ways.map f) = lockedCount ways := by
  simp only [lockedCount, List.countP_map]
  exact List.countP_congr fun w _ => by simp [same]

theorem wayKeys_append (xs ys : List Way) : wayKeys (xs ++ ys) = wayKeys xs ++ wayKeys ys := List.filterMap_append

theorem wayKeys_map {f : Way → Way} (same : ∀ w, (f w).content.map WayContent.key = w.content.map WayContent.key)
    (ways : List Way) : wayKeys (ways.map f) = wayKeys ways := by
  simp only [wayKeys, List.filterMap_map]
  exact List.filterMap_congr fun w _ => same w

/-! ### Touching a way (R85) -/

theorem lockedCount_touchWay (i : Nat) (ways : List Way) : lockedCount (touchWay i ways) = lockedCount ways := by
  cases found : ways[i]? with
  | none => simp [touchWay, found]
  | some w =>
    obtain ⟨pre, post, rfl, rfl⟩ := exists_split_of_getElem? found
    have kept := lockedCount_map (f := fun v => { v with rank := raiseBelow w.rank v.rank }) fun _ => rfl
    rw [touchWay_split, lockedCount_append, lockedCount_append, lockedCount_cons, lockedCount_cons, kept, kept]
    rfl

theorem wayKeys_touchWay (i : Nat) (ways : List Way) : wayKeys (touchWay i ways) = wayKeys ways := by
  cases found : ways[i]? with
  | none => simp [touchWay, found]
  | some w =>
    obtain ⟨pre, post, rfl, rfl⟩ := exists_split_of_getElem? found
    have kept := wayKeys_map (f := fun v => { v with rank := raiseBelow w.rank v.rank }) fun _ => rfl
    have tail : wayKeys ({ w with rank := 0 } :: post.map fun v => { v with rank := raiseBelow w.rank v.rank }) =
        wayKeys (w :: post) := by
      have kept := kept post
      simp only [wayKeys, List.filterMap_cons] at kept ⊢
      rw [kept]
    rw [touchWay_split, wayKeys_append, wayKeys_append, kept, tail]

theorem setLaw_touchWay (i n : Nat) {ways : List Way} (law : SetLaw n ways) : SetLaw n (touchWay i ways) := by
  obtain ⟨ranks, locked, -, -⟩ := (setLaw_iff n ways).1 law
  refine setLaw_of_same law ?_ (by rwa [lockedCount_touchWay]) (by rw [wayKeys_touchWay])
  cases found : ways[i]? with
  | none => simpa [touchWay, found] using ranks
  | some w =>
    obtain ⟨pre, post, rfl, rfl⟩ := exists_split_of_getElem? found
    rw [touchWay_split]
    simp only [List.map_append, List.map_cons, List.map_map] at ranks ⊢
    have raised := perm_raiseBelow (List.perm_middle.symm.trans ranks)
    refine List.perm_middle.trans ?_
    simpa [Function.comp_def] using raised

/-! ### Placing a cell (R87) -/

theorem wayKeys_split (pre post : List Way) (w : Way) :
    (wayKeys (pre ++ w :: post)).Perm ((w.content.map WayContent.key).toList ++ wayKeys (pre ++ post)) := by
  have one : wayKeys (w :: post) = (w.content.map WayContent.key).toList ++ wayKeys post := by
    cases content : w.content <;> simp [wayKeys, content]
  rw [wayKeys_append, wayKeys_append, one, ← List.append_assoc, ← List.append_assoc]
  exact List.perm_append_comm.append_right _

/-- A way takes a content of the set's whose key no other way holds, and is locked only where it was. -/
theorem setLaw_fill {n : Nat} {pre post : List Way} {w : Way} {c : WayContent} (law : SetLaw n (pre ++ w :: post))
    (placed : setIndex c.key = n) (fresh : c.key ∉ wayKeys (pre ++ post))
    (locks : c.locked = true → w.isLocked = true) :
    SetLaw n (pre ++ { w with content := some c } :: post) := by
  rw [setLaw_iff] at law ⊢
  obtain ⟨ranks, locked, keys, nodup⟩ := law
  have before := wayKeys_split pre post w
  have after := wayKeys_split pre post { w with content := some c }
  refine ⟨by simpa using ranks, ?_, fun k mem => ?_, ?_⟩
  · rw [lockedCount_append, lockedCount_cons] at locked ⊢
    have same : Way.isLocked { w with content := some c } = c.locked := rfl
    rw [same]
    cases now : c.locked with
    | false => simp; omega
    | true => simpa [locks now] using locked
  · have mem : k = c.key ∨ k ∈ wayKeys (pre ++ post) := by simpa using after.mem_iff.1 mem
    rcases mem with rfl | mem
    · exact placed
    · exact keys k (before.mem_iff.2 (by simp [mem]))
  · refine after.nodup_iff.2 (List.nodup_cons.2 ⟨fresh, ?_⟩)
    exact (List.nodup_append.1 (before.nodup_iff.1 nodup)).2.1

theorem findIdx?_holds {k : Key} {ways : List Way} {i : Nat} (found : ways.findIdx? (Way.holds k) = some i) :
    ∃ pre w post, ways = pre ++ w :: post ∧ pre.length = i ∧ w.holds k = true := by
  obtain ⟨inside, holds, -⟩ := List.findIdx?_eq_some_iff_getElem.1 found
  obtain ⟨pre, post, split, length⟩ := exists_split_of_getElem? (List.getElem?_eq_getElem inside)
  exact ⟨pre, _, post, split, length, holds⟩

theorem not_mem_wayKeys_of_findIdx? {k : Key} {ways : List Way} (missing : ways.findIdx? (Way.holds k) = none) :
    k ∉ wayKeys ways := by
  rw [mem_wayKeys]
  rintro ⟨w, mem, holds⟩
  have none := List.findIdx?_eq_none_iff.1 missing w mem
  simp [holds] at none

theorem oldestUnlocked_spec {ways : List Way} {start i r : Nat} (found : oldestUnlocked start ways = some (i, r)) :
    ∃ j w, i = start + j ∧ ways[j]? = some w ∧ w.isLocked = false := by
  induction ways generalizing start i r with
  | nil => cases found
  | cons w ws ih =>
    have here (unlocked : w.isLocked = false) : ∃ j v, start = start + j ∧ (w :: ws)[j]? = some v ∧
        v.isLocked = false :=
      ⟨0, w, rfl, rfl, unlocked⟩
    have later {i r : Nat} (found : oldestUnlocked (start + 1) ws = some (i, r)) :
        ∃ j v, i = start + j ∧ (w :: ws)[j]? = some v ∧ v.isLocked = false := by
      obtain ⟨j, v, rfl, at_, unlocked⟩ := ih found
      exact ⟨j + 1, v, by omega, at_, unlocked⟩
    unfold oldestUnlocked at found
    split at found
    case h_1 =>
      split at found
      case isTrue => cases found
      case isFalse unlocked =>
        cases found
        exact here (by simpa using unlocked)
    case h_2 j q rest =>
      split at found
      case isTrue first =>
        cases found
        simp only [Bool.and_eq_true, Bool.not_eq_eq_eq_not, Bool.not_true] at first
        exact here first.1
      case isFalse =>
        cases found
        exact later rest

/-- The way a new cell takes is not locked (R87). -/
theorem victimWay_spec {ways : List Way} {i : Nat} (victim : victimWay ways = some i) :
    ∃ pre w post, ways = pre ++ w :: post ∧ pre.length = i ∧ w.isLocked = false := by
  have split {w : Way} (at_ : ways[i]? = some w) (unlocked : w.isLocked = false) :
      ∃ pre w post, ways = pre ++ w :: post ∧ pre.length = i ∧ w.isLocked = false := by
    obtain ⟨pre, post, split, length⟩ := exists_split_of_getElem? at_
    exact ⟨pre, w, post, split, length, unlocked⟩
  unfold victimWay at victim
  split at victim
  case h_1 j found =>
    cases victim
    obtain ⟨inside, invalid, -⟩ := List.findIdx?_eq_some_iff_getElem.1 found
    refine split (List.getElem?_eq_getElem inside) ?_
    have invalid : (ways[i]).content = none := by simpa using invalid
    simp [Way.isLocked, invalid]
  case h_2 =>
    obtain ⟨⟨j, r⟩, found, rfl⟩ := Option.map_eq_some_iff.1 victim
    obtain ⟨j', w, same, at_, unlocked⟩ := oldestUnlocked_spec found
    have same : j = j' := by simpa using same
    subst same
    exact split at_ unlocked

/-- What placing a cell does to a set: a touched fill of a way whose key no other holds, locked only where the way
was, or nothing. -/
theorem placeInSet_cases {n : Nat} {k : Key} {cell : Cell} {ways : List Way} (law : SetLaw n ways) :
    placeInSet k cell ways = ways ∨ ∃ pre w post c, ways = pre ++ w :: post ∧ c.key = k ∧ c.cell = cell ∧
      k ∉ wayKeys (pre ++ post) ∧ (c.locked = true → w.isLocked = true) ∧
      placeInSet k cell ways = touchWay pre.length (pre ++ { w with content := some c } :: post) := by
  unfold placeInSet
  split
  case h_1 i found =>
    right
    obtain ⟨pre, w, post, rfl, rfl, holds⟩ := findIdx?_holds found
    refine ⟨pre, w, post, ⟨k, cell, w.isLocked⟩, rfl, rfl, rfl, ?_, id, ?_⟩
    · obtain ⟨-, -, -, nodup⟩ := (setLaw_iff _ _).1 law
      have keys := (wayKeys_split pre post w).nodup_iff.1 nodup
      rw [(holds_iff k w).1 holds] at keys
      exact (List.nodup_cons.1 keys).1
    · simp [fillWay_split]
  case h_2 missing =>
    have fresh := not_mem_wayKeys_of_findIdx? missing
    split
    case h_1 i victim =>
      right
      obtain ⟨pre, w, post, rfl, rfl, -⟩ := victimWay_spec victim
      refine ⟨pre, w, post, ⟨k, cell, false⟩, rfl, rfl, rfl, fun mem => fresh ?_, nofun, ?_⟩
      · exact (wayKeys_split pre post w).mem_iff.2 (List.mem_append_right _ mem)
      · simp [fillWay_split]
    case h_2 => exact .inl rfl

theorem setLaw_placeInSet (k : Key) (cell : Cell) {ways : List Way} (law : SetLaw (setIndex k) ways) :
    SetLaw (setIndex k) (placeInSet k cell ways) := by
  rcases placeInSet_cases (k := k) (cell := cell) law with same | ⟨pre, w, post, c, rfl, rfl, -, fresh, locks, placed⟩
  · rwa [same]
  · rw [placed]
    exact setLaw_touchWay _ _ (setLaw_fill law rfl fresh locks)

theorem lockedCount_placeInSet_le {n : Nat} (k : Key) (cell : Cell) {ways : List Way} (law : SetLaw n ways) :
    lockedCount (placeInSet k cell ways) ≤ lockedCount ways := by
  rcases placeInSet_cases (k := k) (cell := cell) law with same | ⟨pre, w, post, c, rfl, rfl, -, -, locks, placed⟩
  · rw [same]
  · have now : Way.isLocked { w with content := some c } = c.locked := rfl
    rw [placed, lockedCount_touchWay, lockedCount_append, lockedCount_append, lockedCount_cons, lockedCount_cons, now]
    cases locked : c.locked with
    | false => simp
    | true => simp [locks locked]

/-! ### Locking (R85, R96) -/

/-- One way when a key's entry is locked in place. -/
def lockWay (k : Key) (w : Way) : Way :=
  match w.content with
  | some c => if c.key = k then { w with content := some { c with locked := true } } else w
  | none => w

theorem lockInSet_eq (k : Key) (ways : List Way) : lockInSet k ways = ways.map (lockWay k) := rfl

theorem rank_lockWay (k : Key) (w : Way) : (lockWay k w).rank = w.rank := by
  unfold lockWay
  split
  · split <;> rfl
  · rfl

theorem key_lockWay (k : Key) (w : Way) :
    (lockWay k w).content.map WayContent.key = w.content.map WayContent.key := by
  unfold lockWay
  split
  case h_1 c content =>
    split
    · rw [content]; rfl
    · rfl
  case h_2 => rfl

theorem lockInSet_eq_self {k : Key} {ways : List Way} (absent : k ∉ wayKeys ways) : lockInSet k ways = ways := by
  refine (List.map_congr_left fun w mem => ?_).trans (List.map_id ways)
  have other : ¬w.holds k = true := fun holds => absent (mem_wayKeys.2 ⟨w, mem, holds⟩)
  rw [holds_iff] at other
  cases content : w.content with
  | none => rfl
  | some c =>
    have differs : c.key ≠ k := by simpa [content] using other
    simp [differs]

theorem setLaw_lockInSet (k : Key) {n : Nat} {ways : List Way} (law : SetLaw n ways) (room : lockedCount ways < 3) :
    SetLaw n (lockInSet k ways) := by
  obtain ⟨ranks, locked, -, nodup⟩ := (setLaw_iff n ways).1 law
  by_cases held : k ∈ wayKeys ways
  · have keys : wayKeys (lockInSet k ways) = wayKeys ways := wayKeys_map (key_lockWay k) ways
    have rank : (lockInSet k ways).map Way.rank = ways.map Way.rank := by
      rw [lockInSet_eq, List.map_map]
      exact List.map_congr_left fun w _ => rank_lockWay k w
    refine setLaw_of_same law (by rwa [rank]) ?_ (by rw [keys])
    obtain ⟨w, mem, holds⟩ := mem_wayKeys.1 held
    obtain ⟨pre, post, rfl⟩ := List.append_of_mem mem
    have apart := (wayKeys_split pre post w).nodup_iff.1 nodup
    rw [(holds_iff k w).1 holds] at apart
    have absent : k ∉ wayKeys (pre ++ post) := (List.nodup_cons.1 apart).1
    rw [wayKeys_append, List.mem_append, not_or] at absent
    have split : lockInSet k (pre ++ w :: post) = lockInSet k pre ++ lockInSet k [w] ++ lockInSet k post := by
      simp [lockInSet]
    rw [split, lockInSet_eq_self absent.1, lockInSet_eq_self absent.2, lockedCount_append, lockedCount_append]
    have one : lockedCount (lockInSet k [w]) ≤ 1 := List.countP_le_length
    rw [lockedCount_append, lockedCount_cons] at room
    omega
  · rwa [lockInSet_eq_self held]

/-! ### Unlocking and invalidating (R93, R98) -/

theorem setLaw_unlocked {n : Nat} {ways : List Way} (law : SetLaw n ways) : SetLaw n (ways.map Way.unlocked) := by
  obtain ⟨ranks, -, -, -⟩ := (setLaw_iff n ways).1 law
  refine setLaw_of_same law ?_ ?_ ?_
  · simpa [Function.comp_def] using ranks
  · rw [lockedCount_map_unlocked]
    omega
  · rw [wayKeys_map fun w => ?_]
    cases content : w.content <;> simp [Way.unlocked, content]

theorem setLaw_without (kind : TableKind) {n : Nat} {ways : List Way} (law : SetLaw n ways) :
    SetLaw n (ways.map (Way.without kind)) := by
  obtain ⟨ranks, locked, -, -⟩ := (setLaw_iff n ways).1 law
  have rank (w : Way) : (w.without kind).rank = w.rank := by
    unfold Way.without
    split
    · split <;> rfl
    · rfl
  have lock (w : Way) (held : (w.without kind).isLocked = true) : w.isLocked = true := by
    unfold Way.without at held
    split at held
    · split at held
      · cases held
      · exact held
    · exact held
  refine setLaw_of_same law ?_ ?_ ?_
  · simpa [Function.comp_def, rank] using ranks
  · refine le_trans ?_ locked
    simp only [lockedCount, List.countP_map]
    exact List.countP_mono_left fun w _ held => lock w held
  · clear ranks locked law
    induction ways with
    | nil => rfl
    | cons w ws ih =>
      have one : (w.without kind).content = none ∨ (w.without kind).content = w.content := by
        unfold Way.without
        split
        · split
          · exact .inl rfl
          · exact .inr rfl
        · exact .inr rfl
      simp only [wayKeys, List.map_cons, List.filterMap_cons] at ih ⊢
      rcases one with gone | kept
      · rw [gone]
        cases w.content with
        | none => exact ih
        | some c => exact ih.cons _
      · rw [kept]
        cases w.content with
        | none => exact ih
        | some c => exact ih.cons_cons _

end Sys2Proof.Machine
end

section
/-! PROOF. The law of the cell cache: its sets, its lock walk and the reads of the port. -/

namespace Sys2Proof.Machine

/-! ### The sets of the cache -/

/-- 64 sets, each as R85 says. -/
def SetsOk (sets : List (List Way)) : Prop := sets.length = 64 ∧ ∀ i ways, sets[i]? = some ways → SetLaw i ways

theorem setIndex_lt (k : Key) : setIndex k < 64 := Nat.mod_lt _ (by omega)

theorem setLaw_setOf {sets : List (List Way)} (law : SetsOk sets) (k : Key) : SetLaw (setIndex k) (setOf k sets) := by
  obtain ⟨length, each⟩ := law
  have inside : setIndex k < sets.length := length ▸ setIndex_lt k
  refine each _ _ ?_
  simp [setOf, List.getD, inside]

theorem setsOk_changeSet {k : Key} {f : List Way → List Way} {sets : List (List Way)} (law : SetsOk sets)
    (keeps : SetLaw (setIndex k) (f (setOf k sets))) : SetsOk (changeSet k f sets) := by
  obtain ⟨length, each⟩ := law
  refine ⟨by simpa [changeSet] using length, fun i ways found => ?_⟩
  rw [changeSet, List.getElem?_set] at found
  split at found
  case isTrue same =>
    subst same
    have inside : setIndex k < sets.length := length ▸ setIndex_lt k
    rw [if_pos inside] at found
    cases found
    exact keeps
  case isFalse => exact each i ways found

theorem setsOk_map {f : List Way → List Way} {sets : List (List Way)} (law : SetsOk sets)
    (keeps : ∀ i ways, SetLaw i ways → SetLaw i (f ways)) : SetsOk (sets.map f) := by
  obtain ⟨length, each⟩ := law
  refine ⟨by simpa using length, fun i ways found => ?_⟩
  rw [List.getElem?_map, Option.map_eq_some_iff] at found
  obtain ⟨before, found, rfl⟩ := found
  exact keeps i before (each i before found)

theorem setOf_changeSet {k : Key} (j : Key) {f : List Way → List Way} {sets : List (List Way)}
    (length : sets.length = 64) :
    setOf j (changeSet k f sets) = if setIndex k = setIndex j then f (setOf k sets) else setOf j sets := by
  have inside : setIndex k < sets.length := length ▸ setIndex_lt k
  simp only [setOf, changeSet, List.getD_eq_getElem?_getD, List.getElem?_set]
  split
  case isTrue => simp [inside]
  case isFalse => rfl

theorem setOf_changeSet_same (k : Key) {f : List Way → List Way} {sets : List (List Way)} (length : sets.length = 64) :
    setOf k (changeSet k f sets) = f (setOf k sets) := by
  rw [setOf_changeSet k length, if_pos rfl]

theorem setLaw_emptySet (i : Nat) : SetLaw i emptySet := by
  rw [setLaw_iff]
  exact ⟨.refl _, by decide, nofun, .nil⟩

theorem setsOk_reset : SetsOk (List.replicate 64 emptySet) := by
  refine ⟨List.length_replicate, fun i ways found => ?_⟩
  obtain ⟨-, rfl⟩ := List.getElem?_eq_some_iff.1 found
  rw [List.getElem_replicate]
  exact setLaw_emptySet i

/-- No set has more locks than before. -/
def NoMoreLocks (old new : List (List Way)) : Prop :=
  ∀ k, lockedCount (setOf k new) ≤ lockedCount (setOf k old)

theorem noMoreLocks_changeSet {k : Key} {f : List Way → List Way} {sets : List (List Way)} (law : SetsOk sets)
    (fewer : lockedCount (f (setOf k sets)) ≤ lockedCount (setOf k sets)) : NoMoreLocks sets (changeSet k f sets) := by
  intro j
  rw [setOf_changeSet j law.1]
  split
  case isTrue same =>
    have sets : setOf j sets = setOf k sets := by simp [setOf, same]
    rwa [sets]
  case isFalse => exact le_rfl

/-! ### Placing and touching -/

theorem setsOk_placeCell (k : Key) (cell : Cell) {c : Cache} (law : SetsOk c.sets) :
    SetsOk (placeCell k cell c).sets ∧ NoMoreLocks c.sets (placeCell k cell c).sets := by
  unfold placeCell
  split
  · exact ⟨law, fun _ => le_rfl⟩
  · have set := setLaw_setOf law k
    exact ⟨setsOk_changeSet law (setLaw_placeInSet k cell set),
      noMoreLocks_changeSet law (lockedCount_placeInSet_le k cell set)⟩

theorem setsOk_touchKey (k : Key) {c : Cache} (law : SetsOk c.sets) :
    SetsOk (touchKey k c).sets ∧ NoMoreLocks c.sets (touchKey k c).sets := by
  unfold touchKey
  split
  · exact ⟨setsOk_changeSet law (setLaw_touchWay _ _ (setLaw_setOf law k)),
      noMoreLocks_changeSet law (lockedCount_touchWay _ _).le⟩
  · exact ⟨law, fun _ => le_rfl⟩

theorem walk_placeCell (k : Key) (cell : Cell) (c : Cache) : (placeCell k cell c).walk = c.walk := by
  unfold placeCell
  split <;> rfl

theorem walk_touchKey (k : Key) (c : Cache) : (touchKey k c).walk = c.walk := by
  unfold touchKey
  split <;> rfl

/-! ### The law in its parts -/

/-- What the law says of the lock walk's record over the sets. -/
def WalkOk (sets : List (List Way)) (w : Walk) : Prop :=
  (w.state = .walking → ∃ k ks, w.rest = k :: ks ∧ lockedCount (setOf k sets) < 3) ∧
  (w.state = .done → w.rest = []) ∧
  (w.state = .walking ∨ w.state = .done → w.planned = w.locked + w.skipped + w.rest.length)

/-- A read of the lock walk on the port is of the cell at which the walk waits. -/
def PortOk (w : Walk) (port : Option PortRead) : Prop :=
  ∀ k cell g t, port = some ⟨.walk k cell g false, t⟩ → w.state = .walking ∧ w.rest.head? = some k

theorem cacheLaw_iff (s : State) : CacheLaw s ↔ SetsOk s.cache.sets ∧ WalkOk s.cache.sets s.cache.walk ∧
    PortOk s.cache.walk s.store.port ∧ (s.started = false → s.store.port = none) := by
  unfold CacheLaw WalkLaw WalkOk PortOk SetsOk
  tauto

theorem cacheLaw_of_same {s u : State} (law : CacheLaw s) (cache : u.cache = s.cache)
    (port : u.store.port = s.store.port) (started : u.started = s.started) : CacheLaw u := by
  rw [cacheLaw_iff] at law ⊢
  rwa [cache, port, started]

theorem walkOk_of_noMoreLocks {sets sets' : List (List Way)} {w : Walk} (law : WalkOk sets w)
    (locks : NoMoreLocks sets sets') : WalkOk sets' w := by
  obtain ⟨walking, ended, counts⟩ := law
  refine ⟨fun state => ?_, ended, counts⟩
  obtain ⟨k, ks, rest, room⟩ := walking state
  exact ⟨k, ks, rest, (locks k).trans_lt room⟩

theorem portOk_dropWalkRead (w : Walk) (port : Option PortRead) : PortOk w (dropWalkRead port) := by
  intro k cell g t read
  unfold dropWalkRead at read
  split at read
  case h_1 => cases read
  case h_2 notWalk => exact (notWalk _ _ _ _ _ read).elim

theorem portOk_none (w : Walk) : PortOk w none := nofun

theorem portOk_dropReadStore {w : Walk} {port : Option PortRead} (law : PortOk w port) :
    PortOk w (dropReadStore port) := by
  intro k cell g t read
  unfold dropReadStore at read
  split at read
  · cases read
  · exact law k cell g t read

theorem dropWalkRead_eq_none {port : Option PortRead} (free : port = none) : dropWalkRead port = none := by
  rw [free]
  rfl

theorem robust_cacheLaw : Robust CacheLaw where
  pending _ law := law
  free _ law := law
  time _ law := law
  links _ law := law
  events _ _ law := law
  outcome _ _ _ law := law
  reinit _ law := law
  op _ _ law := law
  waiting _ law := law
  portFreed law := by
    rw [cacheLaw_iff] at law ⊢
    obtain ⟨sets, walk, -, -⟩ := law
    exact ⟨sets, walk, portOk_none _, fun _ => rfl⟩
  readsDropped law := by
    rw [cacheLaw_iff] at law ⊢
    obtain ⟨sets, walk, port, start⟩ := law
    refine ⟨sets, walk, portOk_dropReadStore port, fun early => ?_⟩
    rw [store_setStore, start early]
    rfl
  engineMoves _ _ _ _ law := law
  setsApplied law := law
  framesDiscarded law := law
  stayEnds law := law

theorem cacheLaw_setPhase {x : Phase} {s : State} (law : CacheLaw s) (early : s.started = false) :
    CacheLaw (setPhase x s) := by
  rw [cacheLaw_iff] at law ⊢
  obtain ⟨sets, walk, port, start⟩ := law
  exact ⟨sets, walk, port, fun _ => start early⟩

theorem cacheLaw_finished {s : State} (law : CacheLaw s) : CacheLaw (setPhase .finished s) := by
  rw [cacheLaw_iff] at law ⊢
  obtain ⟨sets, walk, port, -⟩ := law
  exact ⟨sets, walk, port, nofun⟩

theorem started_of_phase {x : Phase} {s : State} (phase : s.seq.phase = x) (other : x ≠ .finished) :
    s.started = false := by
  simp [State.started, phase, other]

/-! ### Invalidating and unlocking (R93, R94, R98, R99) -/

theorem walkOk_abandonWalking {sets : List (List Way)} {w : Walk} (law : WalkOk sets w) (sets' : List (List Way)) :
    WalkOk sets' (abandonWalking w) := by
  obtain ⟨-, ended, counts⟩ := law
  unfold abandonWalking
  split
  case isTrue => exact ⟨nofun, nofun, by simp⟩
  case isFalse still => exact ⟨fun walking => absurd walking still, ended, counts⟩

theorem cacheLaw_invalidateKind (kind : TableKind) {s : State} (law : CacheLaw s) :
    CacheLaw (invalidateKind kind s) := by
  rw [cacheLaw_iff] at law
  obtain ⟨sets, walk, port, start⟩ := law
  have sets := setsOk_map sets fun _ _ => setLaw_without kind
  have walk := walkOk_abandonWalking walk (s.cache.sets.map fun ways => ways.map (Way.without kind))
  simp only [invalidateKind]
  split
  case isTrue => exact (cacheLaw_iff _).2 ⟨sets, walk, portOk_dropWalkRead _ _, fun early =>
    dropWalkRead_eq_none (start early)⟩
  case isFalse still =>
    refine (cacheLaw_iff _).2 ⟨sets, walk, fun k cell g t read => ?_, start⟩
    exact absurd (port k cell g t read).1 still

theorem cacheLaw_withdrawKind (kind : TableKind) (n : BitVec 3) {s : State} (law : CacheLaw s) :
    CacheLaw (withdrawKind kind n s) := by
  unfold withdrawKind
  split
  case h_1 =>
    split
    case isTrue =>
      refine cacheLaw_invalidateKind kind (cacheLaw_of_same law rfl ?_ rfl)
      cases kind <;> rfl
    case isFalse => exact law
  case h_2 => exact law

theorem cacheLaw_beginOnSector (n : BitVec 3) {s : State} (law : CacheLaw s) : CacheLaw (beginOnSector n s) := by
  have withdrawn : CacheLaw (withdrawKind .shading n (withdrawKind .breathing n
      (s.setStore { s.store with verdicts := s.store.verdicts.set n.toNat .unscanned }))) :=
    cacheLaw_withdrawKind _ _ (cacheLaw_withdrawKind _ _ law)
  simp only [beginOnSector]
  split
  · refine robust_cacheLaw.reevaluate ?_
    exact withdrawn
  · exact withdrawn

theorem cacheLaw_scanKind (kind : TableKind) {s : State} (law : CacheLaw s) : CacheLaw (scanKind kind s) := by
  have chosen (t : Option ActiveTable) : CacheLaw (s.setStore (s.store.setActive kind t)) := by
    refine cacheLaw_of_same law rfl ?_ rfl
    cases kind <;> rfl
  simp only [scanKind]
  split
  · exact cacheLaw_invalidateKind kind (chosen _)
  · exact chosen _

theorem cacheLaw_scanResults {s : State} (law : CacheLaw s) : CacheLaw (scanResults s) := by
  unfold scanResults
  refine cacheLaw_scanKind _ (cacheLaw_scanKind _ ?_)
  unfold scanSector0
  dsimp only
  split <;> exact law

theorem cacheLaw_endStartup {s : State} (law : CacheLaw s) : CacheLaw (endStartup s) := by
  have r := robust_cacheLaw
  have finished : CacheLaw (setPhase .finished s) := cacheLaw_finished law
  have settled : CacheLaw (reevaluate (anchored s)) := r.reevaluate (show CacheLaw (anchored s) from finished)
  unfold endStartup
  refine r.abilitySend (r.abilitySend ?_ _ _) _ _
  exact settled

theorem cacheLaw_markChanged (id : Nat) {s : State} (law : CacheLaw s) : CacheLaw (markChanged id s).2 := by
  rcases markChanged_snd id s with same | released
  · rwa [same]
  · rw [cacheLaw_iff] at law
    obtain ⟨sets, -, -, start⟩ := law
    rw [released]
    exact (cacheLaw_iff _).2 ⟨setsOk_map sets fun _ _ => setLaw_unlocked, ⟨nofun, nofun, by simp⟩,
      portOk_dropWalkRead _ _, fun early => dropWalkRead_eq_none (start early)⟩

theorem walkOk_unlockWalk {sets : List (List Way)} {w : Walk} (law : WalkOk sets w) (sets' : List (List Way)) :
    WalkOk sets' (unlockWalk w) := by
  unfold unlockWalk
  split
  case h_1 => exact walkOk_abandonWalking law sets'
  case h_2 | h_3 => exact ⟨nofun, nofun, by simp [Walk.idleRecord]⟩
  case h_4 idle => exact ⟨by simp [idle], by simp [idle], by simp [idle]⟩

theorem cacheLaw_unlockPath (l : Link) {s : State} (law : CacheLaw s) : CacheLaw (unlockPath l s) := by
  rw [cacheLaw_iff] at law
  obtain ⟨sets, walk, port, start⟩ := law
  unfold unlockPath
  refine robust_cacheLaw.replyOk ?_ _ _ _
  refine (cacheLaw_iff _).2 ⟨setsOk_map sets fun _ _ => setLaw_unlocked, walkOk_unlockWalk walk _, ?_, fun early => ?_⟩
  · dsimp only
    split
    case isTrue => exact portOk_dropWalkRead _ _
    case isFalse still => exact fun k cell g t read => absurd (port k cell g t read).1 still
  · dsimp only [store_setStore]
    split
    · exact dropWalkRead_eq_none (start early)
    · exact start early

/-! ### The walk (R96, R97) -/

theorem walkCells_spec {rest : List Key} {sets : List (List Way)} {locked skipped : Nat} (law : SetsOk sets) :
    SetsOk (walkCells rest sets locked skipped).2.1 ∧
    (walkCells rest sets locked skipped).2.2.1 + (walkCells rest sets locked skipped).2.2.2 +
      (walkCells rest sets locked skipped).1.length = locked + skipped + rest.length ∧
    ∀ k ks, (walkCells rest sets locked skipped).1 = k :: ks →
      lockedCount (setOf k (walkCells rest sets locked skipped).2.1) < 3 := by
  induction rest generalizing sets locked skipped with
  | nil => exact ⟨law, rfl, nofun⟩
  | cons k ks ih =>
    unfold walkCells
    split
    case isTrue =>
      obtain ⟨sets, counts, waits⟩ := ih (locked := locked) (skipped := skipped + 1) law
      exact ⟨sets, by rw [counts, List.length_cons]; omega, waits⟩
    case isFalse room =>
      split
      case isTrue =>
        have locks : SetsOk (changeSet k (lockInSet k) sets) :=
          setsOk_changeSet law (setLaw_lockInSet k (setLaw_setOf law k) (by omega))
        obtain ⟨sets, counts, waits⟩ := ih (locked := locked + 1) (skipped := skipped) locks
        exact ⟨sets, by rw [counts, List.length_cons]; omega, waits⟩
      case isFalse =>
        refine ⟨law, rfl, fun k' ks' same => ?_⟩
        cases same
        exact Nat.lt_of_not_le room

/-- A walk that advances takes cells until one needs a read, and its counts go on adding up. -/
theorem cacheLaw_walkAdvance {s : State} (sets : SetsOk s.cache.sets) (walking : s.cache.walk.state = .walking)
    (counts : s.cache.walk.planned = s.cache.walk.locked + s.cache.walk.skipped + s.cache.walk.rest.length)
    (port : ∀ w, PortOk w s.store.port) (start : s.started = false → s.store.port = none) :
    CacheLaw (walkAdvance s) := by
  obtain ⟨kept, added, waits⟩ := walkCells_spec (rest := s.cache.walk.rest) (locked := s.cache.walk.locked)
    (skipped := s.cache.walk.skipped) sets
  simp only [walkAdvance, walking, ne_eq, not_true_eq_false, if_false]
  refine robust_cacheLaw.raiseIf ?_ _ _
  refine (cacheLaw_iff _).2 ⟨kept, ⟨fun state => ?_, fun state => ?_, fun _ => ?_⟩, port _, start⟩
  · dsimp only [cache_setCache] at state ⊢
    cases rest : (walkCells s.cache.walk.rest s.cache.sets s.cache.walk.locked s.cache.walk.skipped).1 with
    | nil => simp [rest] at state
    | cons k ks => exact ⟨k, ks, rfl, waits k ks rest⟩
  · dsimp only [cache_setCache] at state ⊢
    cases rest : (walkCells s.cache.walk.rest s.cache.sets s.cache.walk.locked s.cache.walk.skipped).1 with
    | nil => rfl
    | cons k ks => simp [rest] at state
  · dsimp only [cache_setCache]
    rw [counts]
    exact added.symm

theorem cacheLaw_lockPath (l : Link) (start stop : Nat) {s : State} (law : CacheLaw s) :
    CacheLaw (lockPath l start stop s) := by
  rw [cacheLaw_iff] at law
  obtain ⟨sets, -, -, early⟩ := law
  unfold lockPath
  refine cacheLaw_walkAdvance ?_ ?_ ?_ ?_ ?_
  · simpa [unlockAll] using setsOk_map sets fun _ _ => setLaw_unlocked
  · simp
  · simp
  · exact fun w => by simpa using portOk_dropWalkRead w s.store.port
  · intro held
    have held : s.started = false := by simpa [State.started] using held
    simpa using dropWalkRead_eq_none (early held)

theorem cacheLaw_finishWalkRead {k : Key} {cell : Cell} {g : Nat} {dropped : Bool} {since : Instant} {s : State}
    (law : CacheLaw s) (port : s.store.port = some ⟨.walk k cell g dropped, since⟩) :
    CacheLaw (finishWalkRead k cell g dropped (endRead since 24 s)) := by
  have ended : CacheLaw (endRead since 24 s) := robust_cacheLaw.endRead law since 24
  simp only [finishWalkRead]
  split
  case isTrue => exact ended
  case isFalse goes =>
    simp only [Bool.or_eq_true, decide_eq_true_eq, not_or, Bool.not_eq_true, ne_eq, Decidable.not_not] at goes
    obtain ⟨rfl, walking⟩ := goes
    obtain ⟨sets, ⟨waits, -, counts⟩, read, -⟩ := (cacheLaw_iff s).1 law
    have walking : s.cache.walk.state = .walking := by simpa using walking
    obtain ⟨k', ks, rest, room⟩ := waits walking
    have counts := counts (.inl walking)
    have head := (read k cell g since port).2
    rw [rest, List.head?_cons, Option.some.injEq] at head
    subst head
    rw [rest, List.length_cons] at counts
    have free (w : Walk) : PortOk w (endRead since 24 s).store.port := portOk_none w
    obtain ⟨placed, fewer⟩ := setsOk_placeCell k' cell sets
    by_cases good : some g = activeGeneration k'.kind (endRead since 24 s)
    · simp only [good, decide_true, if_true]
      have locks : SetsOk (placeLocked k' cell (endRead since 24 s).cache).sets :=
        setsOk_changeSet placed (setLaw_lockInSet k' (setLaw_setOf placed k') ((fewer k').trans_lt room))
      have walk : (placeLocked k' cell (endRead since 24 s).cache).walk = s.cache.walk := walk_placeCell k' cell _
      refine cacheLaw_walkAdvance locks ?_ ?_ free fun _ => rfl
      · rw [← walk] at walking
        exact walking
      · simp only [cache_setCache, walk, rest, List.drop_succ_cons, List.drop_zero]
        omega
    · simp only [good, decide_false, Bool.false_eq_true, if_false]
      refine cacheLaw_walkAdvance sets ?_ ?_ free fun _ => rfl
      · simpa using walking
      · simp only [cache_setCache]
        change s.cache.walk.planned = s.cache.walk.locked + (s.cache.walk.skipped + 1) +
            (s.cache.walk.rest.drop 1).length
        simp only [rest, List.drop_succ_cons, List.drop_zero]
        omega

/-! ### The port (R80, R91) -/

theorem walkKey_eq_some {w : Walk} {k : Key} (waits : walkKey w = some k) :
    w.state = .walking ∧ w.rest.head? = some k := by
  unfold walkKey at waits
  split at waits
  case h_1 walking => exact ⟨walking, waits⟩
  all_goals cases waits

theorem nextSource_walk {s : State} {k : Key} (next : nextSource s = some (.walk k)) :
    walkKey s.cache.walk = some k := by
  unfold nextSource at next
  split at next
  case h_2 waits => cases next; exact waits
  all_goals cases next

theorem started_of_portFree {s : State} (free : portFree s = true) : s.started = true := by
  unfold portFree at free
  simp only [Bool.and_eq_true] at free
  exact free.1.1

theorem cacheLaw_startSource {x : PortSource} {s : State} (law : CacheLaw s) (next : nextSource s = some x)
    (free : portFree s = true) : CacheLaw (startSource x s) := by
  have started : s.started = true := started_of_portFree free
  obtain ⟨sets, walk, port, -⟩ := (cacheLaw_iff s).1 law
  have late (p : Option PortRead) : s.started = false → p = none := fun early => by simp [early] at started
  unfold startSource
  cases x with
  | readStore r => exact (cacheLaw_iff _).2 ⟨sets, walk, nofun, late _⟩
  | demand k | prefetch k =>
    dsimp only
    split
    · exact (cacheLaw_iff _).2 ⟨sets, walk, nofun, late _⟩
    · exact law
  | walk k =>
    dsimp only
    split
    · refine (cacheLaw_iff _).2 ⟨sets, walk, fun k' cell g t read => ?_, late _⟩
      cases read
      exact walkKey_eq_some (nextSource_walk next)
    · exact law

/-- A change of the sets that adds no lock, and of nothing else the law reads. -/
theorem cacheLaw_of_sets {s u : State} (law : CacheLaw s) (sets : SetsOk u.cache.sets)
    (locks : NoMoreLocks s.cache.sets u.cache.sets) (walk : u.cache.walk = s.cache.walk)
    (port : u.store.port = s.store.port) (started : u.started = s.started) : CacheLaw u := by
  rw [cacheLaw_iff] at law ⊢
  obtain ⟨-, walks, reads, start⟩ := law
  rw [walk, port, started]
  exact ⟨sets, walkOk_of_noMoreLocks walks locks, reads, start⟩

theorem cacheLaw_finishFill {k : Key} {cell : Cell} {s : State} (law : CacheLaw s) :
    CacheLaw (finishFill k cell s) := by
  have removed : CacheLaw (s.setCache (removeRead k s.cache)) := law
  obtain ⟨sets, fewer⟩ := setsOk_placeCell k cell ((cacheLaw_iff _).1 removed).1
  simp only [finishFill]
  split
  · exact cacheLaw_of_sets removed (by simpa using sets) (by simpa using fewer) (by simp [walk_placeCell, removeRead])
      (by simp)
      (by rfl)
  · exact removed

/-! ### A computation's lookups (R86, R89) -/

/-- A cache whose sets are well and no fuller of locks than another's, with the other's walk. -/
def Looked (c d : Cache) : Prop := SetsOk d.sets ∧ NoMoreLocks c.sets d.sets ∧ d.walk = c.walk

theorem Looked.trans {c d e : Cache} (h : Looked c d) (j : Looked d e) : Looked c e := by
  obtain ⟨-, fewer, walk⟩ := h
  obtain ⟨sets, fewer', walk'⟩ := j
  exact ⟨sets, fun k => (fewer' k).trans (fewer k), walk'.trans walk⟩

theorem looked_of_same {c d : Cache} (law : SetsOk c.sets) (sets : d.sets = c.sets) (walk : d.walk = c.walk) :
    Looked c d := ⟨sets ▸ law, fun k => by rw [sets], walk⟩

theorem sets_demandRequest (k : Key) (g : Nat) (c : Cache) :
    (demandRequest k g c).1.sets = c.sets ∧ (demandRequest k g c).1.walk = c.walk := by
  unfold demandRequest
  split
  · exact ⟨rfl, rfl⟩
  · split
    · exact ⟨rfl, rfl⟩
    · split
      · exact ⟨rfl, rfl⟩
      · split <;> exact ⟨rfl, rfl⟩

theorem sets_prefetchRequest (k : Key) (g : Nat) (c : Cache) :
    (prefetchRequest k g c).sets = c.sets ∧ (prefetchRequest k g c).walk = c.walk := by
  unfold prefetchRequest
  split
  · exact ⟨rfl, rfl⟩
  · split
    · exact ⟨rfl, rfl⟩
    · split <;> exact ⟨rfl, rfl⟩

theorem looked_lookup (g : Nat) (k : Key) {r : Lookups} (law : SetsOk r.cache.sets) :
    Looked r.cache (lookup g r k).cache := by
  unfold lookup
  split
  · obtain ⟨sets, fewer⟩ := setsOk_touchKey k law
    exact ⟨sets, fewer, walk_touchKey k _⟩
  · obtain ⟨sets, walk⟩ := sets_demandRequest k g r.cache
    exact looked_of_same law sets walk

theorem looked_lookupAll (g : Nat) (keys : List Key) {c : Cache} (law : SetsOk c.sets) :
    Looked c (lookupAll g keys c).cache := by
  have all (r : Lookups) (law : SetsOk r.cache.sets) : Looked r.cache (keys.foldl (lookup g) r).cache := by
    induction keys generalizing r with
    | nil => exact looked_of_same law rfl rfl
    | cons k ks ih =>
      have first := looked_lookup g k law
      exact first.trans (ih _ first.1)
  exact all _ law

theorem looked_startBreathing (level power focal anchor : Nat) (t : Option ActiveTable) {c : Cache}
    (law : SetsOk c.sets) : Looked c (startBreathing level power focal anchor t c).1 := by
  unfold startBreathing
  split
  · exact looked_of_same law rfl rfl
  · split
    · exact looked_of_same law rfl rfl
    · exact looked_lookupAll _ _ law

theorem looked_startShading (level power focal iris : Nat) (t : Option ActiveTable) {c : Cache}
    (law : SetsOk c.sets) : Looked c (startShading level power focal iris t c).1 := by
  unfold startShading
  split
  · exact looked_of_same law rfl rfl
  · split
    · exact looked_of_same law rfl rfl
    · exact looked_lookupAll _ _ law

theorem sets_prefetchKind (kind : TableKind) (d : Direction) (p : Position) (t : Option ActiveTable) (c : Cache) :
    (prefetchKind kind d p t c).sets = c.sets ∧ (prefetchKind kind d p t c).walk = c.walk := by
  unfold prefetchKind
  split
  case h_1 => exact ⟨rfl, rfl⟩
  case h_2 t =>
    generalize prefetchKeys kind d p.power p.focal p.iris t = keys
    induction keys generalizing c with
    | nil => exact ⟨rfl, rfl⟩
    | cons k ks ih =>
      obtain ⟨sets, walk⟩ := sets_prefetchRequest k t.generation c
      obtain ⟨sets', walk'⟩ := ih (prefetchRequest k t.generation c)
      exact ⟨sets'.trans sets, walk'.trans walk⟩

theorem sets_prefetchAll (ms0 : MS0) (level : Nat) (d : Direction) (p : Position) (x : Store) (c : Cache) :
    (prefetchAll ms0 level d p x c).sets = c.sets ∧ (prefetchAll ms0 level d p x c).walk = c.walk := by
  unfold prefetchAll
  dsimp only
  split
  · exact ⟨rfl, rfl⟩
  · split <;> split <;> simp [sets_prefetchKind]

theorem looked_openComputation (x : Inputs) (p : FramePrediction) {s : State} (law : SetsOk s.cache.sets) :
    Looked s.cache (openComputation x p s).1 := by
  have breathing := looked_startBreathing (recordLevel s) p.position.power p.position.focal s.auth.anchor
    s.store.breathing law
  have shading := looked_startShading (recordLevel s) p.position.power p.position.focal p.position.iris
    s.store.shading breathing.1
  have looked := breathing.trans shading
  obtain ⟨sets, walk⟩ := sets_prefetchAll x.ms0 (recordLevel s) p.direction p.position s.store
    (startShading (recordLevel s) p.position.power p.position.focal p.position.iris s.store.shading
      (startBreathing (recordLevel s) p.position.power p.position.focal s.auth.anchor s.store.breathing s.cache).1).1
  exact looked.trans (looked_of_same looked.1 sets walk)

theorem cacheLaw_computeFrame (e : Entry) (x : Inputs) {s : State} (law : CacheLaw s) :
    CacheLaw (computeFrame e x s) := by
  have cache : (notePredictions x.ms0 e.target x.copy s).cache = s.cache := by simp
  have sets : SetsOk (notePredictions x.ms0 e.target x.copy s).cache.sets := cache ▸ ((cacheLaw_iff s).1 law).1
  obtain ⟨sets, fewer, walk⟩ := looked_openComputation x (predictFrame x.ms0 e.target x.copy s) sets
  rw [← cache_computeFrame, cache] at fewer walk
  rw [← cache_computeFrame] at sets
  exact cacheLaw_of_sets law sets fewer walk (by simp) (by simp [State.started])

/-! ### The effects -/

theorem cacheLaw_reset {s : State} (disabled : Bool) (cache : s.cache = .reset disabled) (port : s.store.port = none) :
    CacheLaw s := by
  rw [cacheLaw_iff, cache, port]
  exact ⟨setsOk_reset, ⟨nofun, nofun, by simp [Cache.reset, Walk.idleRecord]⟩, nofun, fun _ => rfl⟩

theorem cacheLaw_beginWork (o : StoreOp) {s : State} (law : CacheLaw s) : CacheLaw (beginWork o s) := by
  unfold beginWork
  dsimp only
  split
  · exact cacheLaw_beginOnSector _ law
  · exact law

theorem cacheLaw_finishClearSector (o : StoreOp) (n : BitVec 3) {s : State} (law : CacheLaw s) :
    CacheLaw (finishClearSector o n s) := by
  simp only [finishClearSector]
  split
  · refine robust_cacheLaw.completeOp ?_ _ _
    exact law
  · refine cacheLaw_beginOnSector _ ?_
    exact law

theorem cacheLaw_of_apart {s u : State} (law : CacheLaw s) (change : Apart s u) : CacheLaw u := by
  have r := robust_cacheLaw
  cases change with
  | markSet l t =>
    refine r.replyOk (cacheLaw_markChanged _ ?_) _ _ _
    exact r.received law l t
  | markDeleted l t =>
    unfold deleteMark
    split
    · exact r.replyOk (r.received law l t) _ _ _
    · refine r.replyOk (cacheLaw_markChanged _ ?_) _ _ _
      exact r.received law l t
  | pathLocked l t => exact cacheLaw_lockPath _ _ _ (r.received law l t)
  | pathUnlocked l t => exact cacheLaw_unlockPath _ (r.received law l t)
  | pageLoaded l t =>
    unfold loadPage
    refine r.replyOk ?_ _ _ _
    exact law
  | programTaken l t | eraseTaken l t => exact cacheLaw_beginOnSector _ (r.startOp (r.received law l t) _ _ _ _)
  | ramChecked since t _ _ _ _ phase =>
    obtain ⟨-, -, -, idle⟩ := (cacheLaw_iff s).1 law
    exact cacheLaw_reset _ rfl (idle (started_of_phase phase nofun))
  | attemptBegins attempt next tests _ phase =>
    exact cacheLaw_setPhase (r.advanceTo law next) (started_of_phase (s := advanceTo next s) phase nofun)
  | attemptEnds attempt t tests _ phase =>
    have early := started_of_phase (s := advanceTo t s) phase nofun
    unfold afterEncoderRead
    split
    · exact cacheLaw_setPhase (r.advanceTo law t) early
    · exact cacheLaw_setPhase (s := failBits _ _) (r.advanceTo law t) early
  | markerRead reinit since t phase =>
    exact cacheLaw_setPhase (s := State.setStore _ (advanceTo t s)) (r.advanceTo law t)
      (started_of_phase (s := advanceTo t s) phase nofun)
  | startScanEnds since t reinit =>
    have scanned := cacheLaw_scanResults (r.advanceTo law t)
    refine cacheLaw_endStartup ?_
    split
    · exact scanned
    · exact cacheLaw_of_same scanned (by simp) (by simp) (by simp [State.started, failBits])
  | rescanEnds o t => exact r.completeOp (cacheLaw_scanResults (r.advanceTo law t)) _ _
  | portReads x next free => exact cacheLaw_startSource law next free
  | walkReadEnds k cell g dropped since port => exact cacheLaw_finishWalkRead law port
  | workBegins o => exact cacheLaw_beginWork o law
  | eraseEnds o n t | programEnds o n p t =>
    refine r.completeOp ?_ _ _
    exact law
  | protectEnds o t =>
    unfold finishProtect
    refine r.completeOp ?_ _ _
    exact cacheLaw_of_same law (by simp) (by simp) (by simp [State.started])
  | clearSectorEnds o n t => exact cacheLaw_finishClearSector o n (r.advanceTo law t)
  | _ => exact cacheLaw_of_same law (by simp) (by simp) (by simp [State.started])

theorem cacheLaw_of_effect (s u : State) (law : CacheLaw s) (effect : Effect s u) : CacheLaw u := by
  have r := robust_cacheLaw
  cases effect with
  | quiet change => exact r.quiet law change
  | apart change => exact cacheLaw_of_apart law change
  | reinitialized => exact cacheLaw_reset _ rfl rfl
  | resetLeft => exact cacheLaw_reset _ rfl rfl
  | computationBegins e x => exact cacheLaw_computeFrame e x (r.advanceTo law e.compute)
  | fillEnds k cell since => exact cacheLaw_finishFill (r.endRead law since 24)
  | _ => exact cacheLaw_of_same law (by simp) (by simp) (by simp [State.started])

/-- Settles O17: a set takes and locks entries within R85, and the walk and its read on the port go together. -/
theorem stepKeepsCacheLaw : Obligations.StepKeepsCacheLaw :=
  robust_cacheLaw.step_keeps (fun _ _ _ => cacheLaw_reset _ rfl rfl) cacheLaw_of_effect

end Sys2Proof.Machine
end

section
/-! PROOF. The law of the event unit: its words are held out of reset, and settled by every command. -/

namespace Sys2Proof.Machine

/-- The event unit holds no words exactly while the part is held in reset. -/
def WordsHeld (s : State) : Prop := s.events.isNone = s.isHeld

theorem wordsHeld_of_eventLaw {s : State} (law : EventLaw s) : WordsHeld s := by
  unfold EventLaw at law
  unfold WordsHeld
  split at law
  case h_1 none => rw [none, law]; rfl
  case h_2 w words => rw [words, law.1]; rfl

theorem ofTiming_wordsHeld : OfTiming WordsHeld where
  pending _ held := held
  free _ held := held
  time _ held := held
  links _ held := held
  events _ same held := same.trans held
  outcome _ _ _ held := held
  reinit _ held := held
  op _ _ held := held
  waiting _ held := held
  portFreed held := held
  readsDropped held := held
  engineMoves _ _ _ _ held := held
  setsApplied held := held
  framesDiscarded held := held
  stayEnds held := held
  seq _ same held := Eq.trans held same.symm
  front _ held := held
  store _ held := held
  cache _ held := held
  auth _ held := held

/-- Words are gained, lost and held by the events and the phase alone. -/
theorem wordsHeld_of_same {s u : State} (held : WordsHeld s) (events : u.events.isNone = s.events.isNone)
    (seq : u.seq = s.seq) : WordsHeld u :=
  events.trans (held.trans (isHeld_of_same_phase (by rw [seq])).symm)

theorem wordsHeld_countStaged {s : State} (held : WordsHeld s) : WordsHeld (countStaged s) := by
  have r := ofTiming_wordsHeld
  simp only [countStaged]
  split
  · refine r.followSelection (r.raiseIf ?_ _ _)
    exact held
  · refine r.raiseIf ?_ _ _
    exact held

theorem wordsHeld_decideSync {s : State} (held : WordsHeld s) : WordsHeld (decideSync s) := by
  unfold decideSync
  split
  · split <;> exact held
  · exact held

theorem wordsHeld_applyEdge {s : State} (held : WordsHeld s) : WordsHeld (applyEdge s) := by
  have r := ofTiming_wordsHeld
  have after (u : State) (held : WordsHeld u) : WordsHeld (afterSync u) :=
    r.reevaluate (wordsHeld_decideSync (wordsHeld_countStaged held))
  unfold applyEdge
  split
  · exact held
  · refine after _ (r.raise ?_ _)
    refine r.stopIfNeeded (s := State.setTiming _ s) ?_
    exact held
  · exact after _ held

theorem wordsHeld_notePredictions {m : MS0} {t : Instant} {cp : MapCopy} {s : State} (held : WordsHeld s) :
    WordsHeld (notePredictions m t cp s) := by
  have r := ofTiming_wordsHeld
  have noted (a : Axis) (p : Option AxisPrediction) {u : State} (held : WordsHeld u) :
      WordsHeld (notePrediction a cp p u) := by
    unfold notePrediction
    split
    · exact held
    · refine r.raiseIf (r.front _ ?_) _ _
      exact held
  exact noted .iris _ (noted .zoom _ (noted .focus _ held))

theorem wordsHeld_setProgress (p : Progress) {s : State} (held : WordsHeld s) : WordsHeld (setProgress p s) := held

theorem wordsHeld_onComputing (f : Entry → Computation → Engine → Entry × Engine) {s : State} (held : WordsHeld s) :
    WordsHeld (onComputing f s) := held

theorem wordsHeld_computeFrame (e : Entry) (x : Inputs) {s : State} (held : WordsHeld s) :
    WordsHeld (computeFrame e x s) := by
  have noted := wordsHeld_notePredictions (m := x.ms0) (t := e.target) (cp := x.copy) held
  simp only [computeFrame]
  split
  · exact wordsHeld_onComputing _ (wordsHeld_setProgress _ noted)
  · exact wordsHeld_setProgress _ noted

theorem wordsHeld_of_effect {s u : State} (held : WordsHeld s) (effect : Effect s u) : WordsHeld u := by
  have r := ofTiming_wordsHeld
  cases effect with
  | quiet change => exact r.quiet held change
  | apart change => exact r.apart held change
  | formatReplaced l t | infoReplaced l t =>
    refine r.replyOk ?_ _ _ _
    exact held
  | modeWritten l t =>
    refine r.writeMode l ?_
    exact held
  | reinitialized | resetLeft => rfl
  | edgeCaptured t => exact wordsHeld_applyEdge (r.advanceTo held t)
  | streamLost t =>
    refine r.reevaluate (r.raise ?_ _)
    exact held
  | patternComputed e x =>
    have noted := wordsHeld_notePredictions (m := x.ms0) (t := e.target) (cp := x.copy) (r.advanceTo held e.compute)
    exact wordsHeld_setProgress _ (wordsHeld_of_same noted rfl rfl)
  | computationBegins e x => exact wordsHeld_computeFrame e x (r.advanceTo held e.compute)
  | cutOff t => exact held
  | recordLeaves e d rest =>
    refine r.handOver e d ?_
    exact held
  | fillEnds k cell since =>
    have ended := r.endRead held since 24
    exact wordsHeld_of_same ended (by simp) (by simp)

/-- The passing of a microsecond leaves the levels' conditions as they are. -/
theorem eventLaw_tick {s : State} (law : EventLaw s) : EventLaw (tick s) := by
  unfold tick
  split <;> exact law

/-- Settles O7: every command that takes effect settles the words it leaves. -/
theorem stepKeepsEventLaw : Obligations.StepKeepsEventLaw :=
  step_keeps (fun _ _ law => law) (fun _ => eventLaw_tick) (fun _ _ _ => rfl) fun _ _ law effect =>
    eventLaw_settle (wordsHeld_of_effect (wordsHeld_of_eventLaw law) effect)

end Sys2Proof.Machine
end

section
/-! PROOF. Laws that read of the links only which of them are UP. -/

namespace Sys2Proof.Machine

/-! ### Which links are UP -/

/-- The transmitter changes the links alone. -/
theorem startTransmit_eq (l : Link) (s : State) : s.setLinks (startTransmit l s).links = startTransmit l s := by
  simp only [startTransmit]
  repeat' split
  all_goals rfl

@[simp] theorem link_advanceTo (t : Instant) (k : Link) (s : State) : (advanceTo t s).link k = s.link k := rfl

/-- The same links are UP. -/
def SameUp (x y : PerLink LinkUnit) : Prop := ∀ l, (x.get l).state = .up ↔ (y.get l).state = .up

theorem sameUp_set {x : PerLink LinkUnit} {l : Link} {u : LinkUnit} (up : u.state = .up ↔ (x.get l).state = .up) :
    SameUp (x.set l u) x := by
  intro k
  cases l <;> cases k
  · exact up
  · exact Iff.rfl
  · exact Iff.rfl
  · exact up

theorem state_setLink (l k : Link) (u : LinkUnit) (s : State) :
    ((s.setLink l u).link k).state = if k = l then u.state else (s.link k).state := by
  cases l <;> cases k <;> rfl

@[simp] theorem state_startTransmit_any (l k : Link) (s : State) :
    ((startTransmit l s).link k).state = (s.link k).state := by
  simp only [startTransmit]
  repeat' split
  all_goals cases l <;> cases k <;> rfl

@[simp] theorem state_abilitySend (l k : Link) (t : Instant) (s : State) :
    ((abilitySend l t s).link k).state = (s.link k).state := by
  rw [abilitySend, state_startTransmit_any, state_setLink]
  split
  case isTrue same => rw [same]
  case isFalse => rfl

theorem state_enterDetect_any (l k : Link) (n : Nat) (w : Option MasterWord) (s : State) :
    ((enterDetect l n w s).link k).state = if k = l then .abilityDetect else (s.link k).state := by
  rw [enterDetect, state_abilitySend, state_setLink]

theorem state_enterSilent (l k : Link) (s : State) :
    ((enterSilent l s).link k).state = if k = l then .silent else (s.link k).state := by
  rw [enterSilent, state_abilitySend, state_setLink]

theorem link_of_links {s u : State} (links : u.links = s.links) (k : Link) : u.link k = s.link k :=
  congrArg (PerLink.get · k) links

@[simp] theorem link_raiseOn (l k : Link) (e : Event) (s : State) : (raiseOn l e s).link k = s.link k :=
  link_of_links (by simp) k

@[simp] theorem link_reevaluate (k : Link) (s : State) : (reevaluate s).link k = s.link k := link_of_links (by simp) k

@[simp] theorem link_setHolder (h : Option Link) (c : Bool) (n : Nat) (k : Link) (s : State) :
    (setHolder h c n s).link k = s.link k := link_of_links (by simp) k

@[simp] theorem link_dropReinitReply (l k : Link) (s : State) : (dropReinitReply l s).link k = s.link k :=
  link_of_links (by simp) k

theorem state_dropUp (l k : Link) (s : State) :
    ((dropUp l s).link k).state = if k = l then .silent else (s.link k).state := by
  cases l <;> simp [dropUp, state_setLink]

/-- Resolving authority brings no link UP. -/
theorem up_of_resolveAuthority {k : Link} {s : State} (up : ((resolveAuthority s).link k).state = .up) :
    (s.link k).state = .up := by
  simp only [resolveAuthority] at up
  split at up
  case h_3 =>
    split at up
    case isTrue => rw [state_equalSeedRestart] at up; cases up
    case isFalse => simpa using up
  all_goals simpa using up

/-- A link that leaves UP is not UP, and no other link comes UP with it. -/
theorem up_of_leaveUp {l k : Link} {s : State} (up : ((leaveUp l s).link k).state = .up) :
    k ≠ l ∧ (s.link k).state = .up := by
  rw [leaveUp, link_reevaluate] at up
  have dropped := up_of_resolveAuthority up
  rw [state_dropUp] at dropped
  split at dropped
  case isTrue => cases dropped
  case isFalse other => exact ⟨other, dropped⟩

/-! ### Laws that the exchange cannot break -/

/-- A law that the coming and going of UP keeps, and that reads nothing else of the links and nothing of what replies
and reports need. -/
structure Linked (P : State → Prop) : Prop where
  pending : ∀ {s} q, P s → P { s with pending := q }
  free : ∀ {s} n, P s → P (s.setFree n)
  time : ∀ {s} t, P s → P (s.setTiming { s.timing with timebase := t })
  links : ∀ {s} x, SameUp x s.links → P s → P (s.setLinks x)
  events : ∀ {s} x, P s → P (s.setEvents x)
  reinit : ∀ {s} r, P s → P (s.setSeq { s.seq with reinit := r })
  taken : ∀ {s} o, P s → P (s.setStore { s.store with op := some o })
  waiting : ∀ {s} r, P s → P (s.setStore { s.store with readStoreWaiting := r })
  portFreed : ∀ {s}, P s → P (s.setStore { s.store with port := none })
  reports : ∀ {s} d, P s → P (s.setEngine { s.engine with reportDue := d })
  left : ∀ {s} l, P s → P (leaveUp l s)
  entered : ∀ {s} l, P s → (s.link l).state = .acknowledge → (s.link l).acceptedWord.isSome = true → P (enterUp l s)

namespace Linked

variable {P : State → Prop} (r : Linked P) {s : State} (law : P s)
include r law

theorem advanceTo (t : Instant) : P (advanceTo t s) := r.time _ law

theorem tick : P (tick s) := by
  unfold Machine.tick
  split
  · exact law
  · exact r.time _ law

theorem setLink (l : Link) (u : LinkUnit) (up : u.state = .up ↔ (s.link l).state = .up := by rfl) : P (s.setLink l u) :=
  r.links _ (sameUp_set up) law

theorem raiseOn (l : Link) (e : Event) : P (raiseOn l e s) := by
  unfold Machine.raiseOn
  split
  · exact law
  · exact r.events _ law

theorem raise (e : Event) : P (raise e s) := r.raiseOn (r.raiseOn law _ _) _ _

theorem raiseIf (b : Bool) (e : Event) : P (raiseIf b e s) := by
  unfold Machine.raiseIf
  split
  · exact r.raise law e
  · exact law

theorem settle : P (settle s) := by
  unfold Machine.settle
  split
  · exact law
  · exact r.events _ law

theorem startTransmit (l : Link) : P (startTransmit l s) := by
  have same (k : Link) : ((Machine.startTransmit l s).link k).state = .up ↔ (s.link k).state = .up := by simp
  have moved := r.links (Machine.startTransmit l s).links same law
  simpa only [startTransmit_eq] using moved

theorem joinReply (l : Link) (k : Byte) (p : List Byte) : P (joinReply l k p s) :=
  r.startTransmit (r.setLink law _ _) _

theorem replyOk (l : Link) (k : Byte) (p : List Byte) : P (replyOk l k p s) := r.joinReply law _ _ _

theorem handRecord (l : Link) (f : TxFrame) : P (handRecord l f s) := r.startTransmit (r.setLink law _ _) _

theorem abilitySend (l : Link) (t : Instant) : P (abilitySend l t s) := r.startTransmit (r.setLink law _ _) _

theorem answerReadStore (p : List Byte) : P (answerReadStore p s) := r.startTransmit (r.setLink law _ _) _

theorem refuse (l : Link) (k : Byte) (c : Code) : P (refuse l k c s) := by
  unfold Machine.refuse
  split
  · exact r.setLink law _ _
  · exact r.joinReply law _ _ _

theorem frameEnds (l : Link) (t : Instant) : P (frameEnds l t s) := r.setLink (r.advanceTo law t) _ _

theorem received (l : Link) (t : Instant) : P (received l t s) := by
  have timed := r.links (s.links.set l { s.links.get l with
    parser := .hunting, timeout := some (addInterval (laterOf t s.timing.timebase) 250000) }) (sameUp_set Iff.rfl) law
  exact r.time _ timed

theorem enterSilent (l : Link) (down : (s.link l).state ≠ .up) : P (enterSilent l s) :=
  r.abilitySend (r.setLink law _ _ (iff_of_false (by nofun) down)) _ _

theorem enterDetect (l : Link) (n : Nat) (w : Option MasterWord) (down : (s.link l).state ≠ .up) :
    P (enterDetect l n w s) :=
  r.abilitySend (r.setLink law _ _ (iff_of_false (by nofun) down)) _ _

theorem countWord (l : Link) (w : MasterWord) (down : (s.link l).state ≠ .up) : P (countWord l w s) := by
  have acknowledged : P (enterAcknowledge l w s) :=
    r.abilitySend (r.setLink law _ _ (iff_of_false (by nofun) down)) _ _
  simp only [Machine.countWord]
  repeat' split
  · exact acknowledged
  · exact r.setLink law _ _
  · exact acknowledged
  · exact r.setLink law _ _

theorem settleWord (l : Link) (w : MasterWord) (state : (s.link l).state = .acknowledge) : P (settleWord l w s) := by
  simp only [Machine.settleWord]
  split
  case isTrue same =>
    split
    · refine r.entered l law state ?_
      cases word : (s.link l).acceptedWord with
      | none => simp [word] at same
      | some v => rfl
    · exact r.setLink law _ _
  case isFalse => exact r.enterDetect law l _ _ (by simp [state])

theorem receiveWord (l : Link) (w : MasterWord) : P (receiveWord l w s) := by
  unfold Machine.receiveWord
  split
  case h_1 state => exact r.enterDetect law l _ _ (by simp [state])
  case h_2 state => exact r.countWord law l w (by simp [state])
  case h_3 state => exact r.settleWord law l w state
  case h_4 => exact r.enterDetect (r.left l law) l _ _ fun up => (up_of_leaveUp up).1 rfl

theorem rejectWord (l : Link) : P (rejectWord l s) := by
  unfold Machine.rejectWord
  refine r.raiseOn ?_ _ _
  split
  · exact r.setLink law _ _
  · exact law

theorem afterTransmit (l : Link) (f : TxFrame) : P (afterTransmit l f s) := by
  unfold Machine.afterTransmit
  split
  · exact r.reinit _ law
  · split
    · exact r.setLink law _ _
    · exact r.startTransmit law _

theorem dismissReads : P (dismissReads s) := by
  unfold Machine.dismissReads
  exact nat_repeat_keeps (P := P) (fun u law => r.answerReadStore law _) _ (r.waiting _ law)

theorem startOp (l : Link) (x : StoreOpName) (n : Option (BitVec 3)) (p : Option (BitVec 8)) :
    P (startOp l x n p s) :=
  r.joinReply (r.dismissReads (r.taken _ law)) _ _ _

theorem endRead (t : Instant) (n : Nat) : P (endRead t n s) := r.portFreed (r.advanceTo law _)

end Linked

/-- A quiet effect keeps every law that the exchange cannot break. -/
theorem Linked.quiet {P : State → Prop} (r : Linked P) {s u : State} (law : P s) (change : Quiet s u) : P u := by
  cases change with
  | nothing => exact law
  | timePasses t => exact r.advanceTo law t
  | frameEnds l t => exact r.frameEnds law l t
  | frameGoesOn l t bytes => exact r.setLink (r.advanceTo law t) _ _
  | frameAbandoned l t => exact r.raiseOn (r.frameEnds law l t) _ _
  | requestDiscarded l t => exact r.received law l t
  | replyListFull l t => exact r.raiseOn (r.received law l t) _ _
  | refused l t k c => exact r.refuse (r.received law l t) _ _ _
  | answered l t k p => exact r.joinReply (r.received law l t) _ _ _
  | statusAnswered l t p n => exact r.replyOk (r.free _ (r.received law l t)) _ _ _
  | eventsModified l t mask => exact r.replyOk (r.events _ (r.received law l t)) _ _ _
  | enablesSet l t word => exact r.replyOk (r.events _ (r.received law l t)) _ _ _
  | reinitializeTaken l t => exact r.replyOk (r.reinit _ (r.received law l t)) _ _ _
  | operationTaken l t => exact r.startOp (r.received law l t) _ _ _ _
  | readStoreTaken t => exact r.waiting _ (r.received law _ t)
  | wordRejected l t => exact r.rejectWord (r.frameEnds law l t) l
  | wordReceived l t w => exact r.receiveWord (r.frameEnds law l t) l w
  | abilityDue l due next => exact r.abilitySend (r.advanceTo law due) l next
  | detectEnds l due state =>
    have down : ((Machine.advanceTo due s).link l).state ≠ .up := by rw [link_advanceTo, state]; nofun
    exact r.enterSilent (r.setLink (r.advanceTo law due) _ _) l (by simpa using down)
  | acknowledgeEnds l due state =>
    have down : ((Machine.advanceTo due s).link l).state ≠ .up := by rw [link_advanceTo, state]; nofun
    exact r.enterSilent (r.setLink (r.advanceTo law due) _ _) l (by simpa using down)
  | upEnds l due => exact r.enterSilent (r.left l (r.advanceTo law due)) l fun up => (up_of_leaveUp up).1 rfl
  | frameSent l t f => exact r.afterTransmit (r.setLink (r.advanceTo law t) _ _) l f
  | reportDue due =>
    refine r.handRecord ?_ _ _
    exact r.reports _ (r.advanceTo law due)
  | renegotiated l => exact r.enterDetect (r.left l law) l _ _ fun up => (up_of_leaveUp up).1 rfl
  | droppedReadEnds => exact r.endRead law _ _
  | readStoreEnds => exact r.answerReadStore (r.endRead law _ _) _

end Sys2Proof.Machine
end

section
/-! PROOF. The law of the engine: its state agrees with its conditions after every re-evaluation. -/

namespace Sys2Proof.Machine

/-! ### What the law reads -/

/-- The engine's state and its mode sets. -/
def engineView (e : Engine) : EngineState × ModeSet MS0 × ModeSet MS1 × ModeSet MS2 × ModeSet MS3 :=
  (e.state, e.ms0, e.ms1, e.ms2, e.ms3)

theorem engineLaw_of_same {s u : State} (law : EngineLaw s) (engine : engineView u.engine = engineView s.engine)
    (stream : u.timing.stream = s.timing.stream) (frames : s.timing.frames = [] → u.timing.frames = [])
    (store : u.store.sector0Valid = s.store.sector0Valid ∧ u.store.op.isNone = s.store.op.isNone)
    (up : (u.link .body).state = .up ↔ (s.link .body).state = .up) : EngineLaw u := by
  simp only [engineView, Prod.mk.injEq] at engine
  obtain ⟨state, ms0, ms1, ms2, ms3⟩ := engine
  obtain ⟨valid, op⟩ := store
  have idle : u.store.op = none ↔ s.store.op = none := by
    rw [← Option.isNone_iff_eq_none, op, Option.isNone_iff_eq_none]
  unfold EngineLaw configured anyStaged patternSelected at *
  rw [state, ms0, ms1, ms2, ms3, valid, stream, up, idle]
  obtain ⟨configured, runs, running, pattern, quiet, waits⟩ := law
  exact ⟨configured, runs, running, pattern, fun still => (quiet still).imp_right frames, waits⟩

/-- What the law of the engine says apart from its conditions. -/
def EngineCore (s : State) : Prop :=
  (s.engine.state = .running → patternSelected s.engine = false) ∧
  (s.engine.state = .pattern → patternSelected s.engine = true) ∧
  (s.engine.state.runs = false → anyStaged s.engine = false ∧ s.timing.frames = [])

theorem EngineLaw.core {s : State} (law : EngineLaw s) : EngineCore s := by
  obtain ⟨-, -, running, pattern, quiet, -⟩ := law
  exact ⟨running, pattern, quiet⟩

theorem engineCore_of_same {s u : State} (core : EngineCore s) (engine : engineView u.engine = engineView s.engine)
    (frames : s.timing.frames = [] → u.timing.frames = []) : EngineCore u := by
  simp only [engineView, Prod.mk.injEq] at engine
  obtain ⟨state, ms0, ms1, ms2, ms3⟩ := engine
  unfold EngineCore anyStaged patternSelected at *
  rw [state, ms0, ms1, ms2, ms3]
  obtain ⟨running, pattern, quiet⟩ := core
  exact ⟨running, pattern, fun still => (quiet still).imp_right frames⟩

/-! ### A re-evaluation establishes the law (R127 to R130) -/

theorem mayRun_iff (s : State) :
    mayRun s = true ↔ configured s = true ∧ s.timing.stream = .locked ∧ (s.link .body).state = .up := by
  simp [mayRun, bodyUp, and_assoc]

@[simp] theorem isStaged_apply {α : Type} (m : ModeSet α) : m.apply.isStaged = false := by
  unfold ModeSet.apply ModeSet.isStaged
  split
  · rfl
  · next free => simp [free]

theorem engineCore_leaveRunning (s : State) : EngineCore (leaveRunning s) ∧
    (leaveRunning s).engine.state = .standby := by
  have raised : (leaveRunning s).engine.state = .standby ∧ anyStaged (leaveRunning s).engine = false ∧
      (leaveRunning s).timing.frames = [] := by
    simp [leaveRunning, anyStaged, discardFrames]
  obtain ⟨state, staged, frames⟩ := raised
  refine ⟨⟨?_, ?_, fun _ => ⟨staged, frames⟩⟩, state⟩ <;> simp [state]

/-- The state the engine is in is not among its conditions. -/
@[simp] theorem configured_enterSelected (s : State) : configured (enterSelected s) = configured s := by
  unfold enterSelected
  split <;> rfl

@[simp] theorem configured_setState (x : EngineState) (s : State) :
    configured (s.setEngine { s.engine with state := x }) = configured s := rfl

theorem engineCore_enterSelected (s : State) : EngineCore (enterSelected s) ∧
    (enterSelected s).engine.state.runs = true := by
  unfold enterSelected
  split
  case isTrue selected => exact ⟨⟨nofun, fun _ => selected, nofun⟩, rfl⟩
  case isFalse selected => exact ⟨⟨fun _ => Bool.eq_false_iff.2 selected, nofun, nofun⟩, rfl⟩

/-- A run in progress whose conditions hold leaves the law holding. -/
theorem engineLaw_of_runs {s : State} (core : EngineCore s) (runs : s.engine.state.runs = true)
    (set : configured s = true)
    (locked : s.timing.stream = .locked) (up : (s.link .body).state = .up) : EngineLaw s := by
  obtain ⟨running, pattern, -⟩ := core
  refine ⟨iff_of_false ?_ (by simp [set]), fun _ => ⟨locked, up⟩, running, pattern, fun still => ?_, ?_⟩
  · rintro unconfigured
    simp [unconfigured, EngineState.runs] at runs
  · simp [runs] at still
  · rintro ⟨standby, -⟩
    simp [standby, EngineState.runs] at runs

@[simp] theorem stream_enterSelected (s : State) : (enterSelected s).timing.stream = s.timing.stream := by
  unfold enterSelected
  split <;> rfl

/-- With no run in progress, following the configuration and starting when ready leaves the law holding. -/
theorem engineLaw_startIfReady {s : State} (core : EngineCore s) (still : s.engine.state.runs = false)
    (follows : s.engine.state = .unconfigured ↔ configured s = false) : EngineLaw (startIfReady s) := by
  obtain ⟨-, -, quiet⟩ := core
  obtain ⟨staged, frames⟩ := quiet still
  unfold startIfReady
  split
  case isTrue ready =>
    simp only [Bool.and_eq_true, decide_eq_true_eq, mayRun_iff] at ready
    obtain ⟨⟨standby, configured, locked, up⟩, -⟩ := ready
    obtain ⟨core, runs⟩ := engineCore_enterSelected s
    exact engineLaw_of_runs core runs (by simpa using configured) (by simpa using locked)
      ((congrArg LinkUnit.state (link_of_links (by simp) .body)).trans up)
  case isFalse ready =>
    refine ⟨follows, fun runs => by simp [still] at runs, fun running => ?_, fun pattern => ?_,
      fun _ => ⟨staged, frames⟩, ?_⟩
    · simp [running, EngineState.runs] at still
    · simp [pattern, EngineState.runs] at still
    · rintro ⟨standby, locked, up, op⟩
      have configured : configured s = true := by simpa [standby] using follows
      exact ready (by simp [standby, mayRun_iff, configured, locked, up, op])

theorem engineLaw_of_still {s : State} (core : EngineCore s) (still : s.engine.state.runs = false) :
    EngineLaw (startIfReady (followConfiguration s)) := by
  have moved (x : EngineState) (other : x.runs = false) : EngineCore (s.setEngine { s.engine with state := x }) := by
    obtain ⟨-, -, quiet⟩ := core
    refine ⟨fun running => ?_, fun pattern => ?_, fun _ => quiet still⟩
    · cases (show x = .running from running)
      cases other
    · cases (show x = .pattern from pattern)
      cases other
  unfold followConfiguration
  split
  case h_1 unconfigured =>
    split
    case isTrue set => exact engineLaw_startIfReady (moved .standby rfl) rfl (iff_of_false nofun (by simp [set]))
    case isFalse set => exact engineLaw_startIfReady core still (iff_of_true unconfigured (by simpa using set))
  case h_2 standby =>
    split
    case isTrue set => exact engineLaw_startIfReady core still (iff_of_false (by simp [standby]) (by simp [set]))
    case isFalse set =>
      exact engineLaw_startIfReady (moved .unconfigured rfl) rfl (iff_of_true rfl (by simpa using set))
  case h_3 running => simp [running, EngineState.runs] at still
  case h_4 pattern => simp [pattern, EngineState.runs] at still

theorem engineLaw_reevaluate {s : State} (core : EngineCore s) : EngineLaw (reevaluate s) := by
  unfold reevaluate
  cases runs : s.engine.state.runs with
  | false =>
    have stays : stopIfNeeded s = s := by simp [stopIfNeeded, runs]
    rw [stays]
    exact engineLaw_of_still core runs
  | true =>
    by_cases may : mayRun s = true
    · have stays : startIfReady (followConfiguration (stopIfNeeded s)) = s := by
        have stop : stopIfNeeded s = s := by simp [stopIfNeeded, may]
        cases state : s.engine.state <;>
          simp [EngineState.runs, state, stop, followConfiguration, startIfReady] at runs ⊢
      rw [stays]
      obtain ⟨configured, locked, up⟩ := (mayRun_iff s).1 may
      exact engineLaw_of_runs core runs configured locked up
    · have stop : stopIfNeeded s = leaveRunning s := by simp [stopIfNeeded, runs, may]
      obtain ⟨core, standby⟩ := engineCore_leaveRunning s
      rw [stop]
      exact engineLaw_of_still core (by rw [standby]; rfl)

/-! ### The exchange -/

theorem engineCore_dropUp (l : Link) {s : State} (core : EngineCore s) : EngineCore (dropUp l s) := by
  refine engineCore_of_same core ?_ (by simp)
  cases l <;> simp [dropUp, engineView]

theorem engineCore_setHolder (h : Option Link) (c : Bool) (n : Nat) {s : State} (core : EngineCore s) :
    EngineCore (setHolder h c n s) := engineCore_of_same core (by simp) (by simp)

theorem engineCore_resolveAuthority {s : State} (core : EngineCore s) : EngineCore (resolveAuthority s) := by
  simp only [resolveAuthority]
  split
  case h_3 =>
    split
    case isTrue =>
      have down := engineCore_setHolder none false (s.auth.equalSeeds + 1)
        (engineCore_dropUp .accessory (engineCore_dropUp .body core))
      exact engineCore_of_same (engineLaw_reevaluate down).core (by simp [equalSeedRestart])
        (by simp [equalSeedRestart])
    case isFalse => exact engineCore_setHolder _ _ _ core
  all_goals exact engineCore_setHolder _ _ _ core

/-- Authority resolved leaves the law holding: a restart re-evaluates the engine before the links begin again. -/
theorem engineLaw_resolveAuthority {s : State} (law : EngineLaw s) : EngineLaw (resolveAuthority s) := by
  have held (h : Option Link) (c : Bool) (n : Nat) : EngineLaw (setHolder h c n s) :=
    engineLaw_of_same law (by simp) (by simp) (by simp) (by simp) (by simp)
  simp only [resolveAuthority]
  split
  case h_3 =>
    split
    case isTrue =>
      have down := engineCore_setHolder none false (s.auth.equalSeeds + 1)
        (engineCore_dropUp .accessory (engineCore_dropUp .body law.core))
      refine engineLaw_of_same (engineLaw_reevaluate down) (by simp [equalSeedRestart]) (by simp [equalSeedRestart])
        (by simp [equalSeedRestart]) (by simp [equalSeedRestart]) ?_
      rw [state_equalSeedRestart, link_reevaluate, link_setHolder, state_dropUp, state_dropUp]
      simp
    case isFalse => exact held _ _ _
  all_goals exact held _ _ _

theorem engineLaw_leaveUp (l : Link) {s : State} (law : EngineLaw s) : EngineLaw (leaveUp l s) :=
  engineLaw_reevaluate (engineCore_resolveAuthority (engineCore_dropUp l law.core))

theorem engineLaw_startReports {s : State} (law : EngineLaw s) : EngineLaw (startReports s) := by
  unfold startReports
  split
  · exact engineLaw_of_same law rfl rfl id ⟨rfl, rfl⟩ Iff.rfl
  · exact law

theorem engineLaw_enterUp (l : Link) {s : State} (law : EngineLaw s) : EngineLaw (enterUp l s) := by
  simp only [enterUp]
  cases l with
  | body =>
    refine engineLaw_reevaluate (engineCore_resolveAuthority ?_)
    exact engineCore_of_same law.core (by simp) (by simp)
  | accessory =>
    refine engineLaw_startReports (engineLaw_resolveAuthority ?_)
    refine engineLaw_of_same law (by simp) (by simp) (by simp) (by simp) ?_
    rw [link_raiseOn]
    exact Iff.rfl

theorem linked_engineLaw : Linked EngineLaw where
  pending _ law := law
  free _ law := law
  time _ law := engineLaw_of_same law rfl rfl id ⟨rfl, rfl⟩ Iff.rfl
  links _ same law := engineLaw_of_same law rfl rfl id ⟨rfl, rfl⟩ (same .body)
  events _ law := law
  reinit _ law := law
  taken {s} o law := by
    obtain ⟨configured, runs, running, pattern, quiet, -⟩ := law
    exact ⟨configured, runs, running, pattern, quiet, fun ⟨_, _, _, waits⟩ => nomatch waits⟩
  waiting _ law := law
  portFreed law := law
  reports _ law := engineLaw_of_same law rfl rfl id ⟨rfl, rfl⟩ Iff.rfl
  left l law := engineLaw_leaveUp l law
  entered l law _ _ := engineLaw_enterUp l law

end Sys2Proof.Machine
end

section
/-! PROOF. Every step keeps the law of the engine. -/

namespace Sys2Proof.Machine

/-! ### The store, the scans and the cache -/

theorem engineLaw_completeOp (o : StoreOp) (x : OpResult) {s : State} (core : EngineCore s) :
    EngineLaw (completeOp o x s) :=
  engineLaw_reevaluate (engineCore_of_same core (by simp) (by simp))

theorem engineLaw_invalidateKind (kind : TableKind) {s : State} (law : EngineLaw s) :
    EngineLaw (invalidateKind kind s) := by
  simp only [invalidateKind]
  split <;> exact engineLaw_of_same law rfl rfl id ⟨rfl, rfl⟩ Iff.rfl

theorem engineLaw_withdrawKind (kind : TableKind) (n : BitVec 3) {s : State} (law : EngineLaw s) :
    EngineLaw (withdrawKind kind n s) := by
  unfold withdrawKind
  split
  · split
    · refine engineLaw_invalidateKind kind ?_
      cases kind <;> exact engineLaw_of_same law rfl rfl id ⟨rfl, rfl⟩ Iff.rfl
    · exact law
  · exact law

/-- Work on sector 0 takes its validity away, after which the engine is re-evaluated (R74). -/
theorem engineLaw_beginOnSector (n : BitVec 3) {s : State} (law : EngineLaw s) : EngineLaw (beginOnSector n s) := by
  have withdrawn : EngineLaw (withdrawKind .shading n (withdrawKind .breathing n
      (s.setStore { s.store with verdicts := s.store.verdicts.set n.toNat .unscanned }))) :=
    engineLaw_withdrawKind _ _ (engineLaw_withdrawKind _ _ (engineLaw_of_same law rfl rfl id ⟨rfl, rfl⟩ Iff.rfl))
  simp only [beginOnSector]
  split
  · exact engineLaw_reevaluate (engineCore_of_same withdrawn.core rfl id)
  · exact withdrawn

theorem engineCore_scanResults {s : State} (core : EngineCore s) : EngineCore (scanResults s) :=
  engineCore_of_same core (by simp) (by simp)

theorem engineLaw_endStartup {s : State} (core : EngineCore s) : EngineLaw (endStartup s) := by
  have r := linked_engineLaw
  have settled : EngineLaw (reevaluate (anchored s)) := engineLaw_reevaluate (engineCore_of_same core rfl id)
  unfold endStartup
  refine r.abilitySend (r.abilitySend ?_ _ _) _ _
  exact settled

theorem engineLaw_walkAdvance {s : State} (law : EngineLaw s) : EngineLaw (walkAdvance s) := by
  simp only [walkAdvance]
  split
  · exact law
  · refine linked_engineLaw.raiseIf ?_ _ _
    exact law

theorem engineLaw_markChanged (n : Nat) {s : State} (law : EngineLaw s) : EngineLaw (markChanged n s).2 := by
  rcases markChanged_snd n s with same | released
  · rwa [same]
  · rw [released]
    exact engineLaw_of_same law rfl rfl id ⟨rfl, rfl⟩ Iff.rfl

theorem engineLaw_startSource (x : PortSource) {s : State} (law : EngineLaw s) : EngineLaw (startSource x s) := by
  have moved (c : Cache) (w : List ReadRequest) (p : Option PortRead) :
      EngineLaw ((s.setCache c).setStore { s.store with readStoreWaiting := w, port := p }) :=
    engineLaw_of_same law rfl rfl id ⟨rfl, rfl⟩ Iff.rfl
  unfold startSource
  cases x with
  | readStore => exact moved _ _ _
  | demand k | prefetch k | walk k =>
    dsimp only
    split
    · exact moved _ _ _
    · exact law

theorem engineLaw_beginWork (o : StoreOp) {s : State} (law : EngineLaw s) : EngineLaw (beginWork o s) := by
  have begun := linked_engineLaw.taken { o with working := some s.now } law
  simp only [beginWork]
  split
  · exact engineLaw_beginOnSector _ begun
  · exact begun

theorem engineLaw_finishClearSector (o : StoreOp) (n : BitVec 3) {s : State} (law : EngineLaw s) :
    EngineLaw (finishClearSector o n s) := by
  simp only [finishClearSector]
  split
  · exact engineLaw_completeOp _ _ (engineCore_of_same law.core rfl id)
  · refine engineLaw_beginOnSector _ (linked_engineLaw.taken _ ?_)
    exact engineLaw_of_same law rfl rfl id ⟨rfl, rfl⟩ Iff.rfl

theorem engineLaw_of_apart {s u : State} (law : EngineLaw s) (change : Apart s u) : EngineLaw u := by
  have r := linked_engineLaw
  cases change with
  | anchorSet l t =>
    refine r.replyOk ?_ _ _ _
    exact r.received law l t
  | anchorTaken l t =>
    unfold anchorHere
    split
    · exact r.received law l t
    · refine r.replyOk ?_ _ _ _
      exact r.received law l t
  | markSet l t =>
    refine r.replyOk (engineLaw_markChanged _ ?_) _ _ _
    exact r.received law l t
  | markDeleted l t =>
    unfold deleteMark
    split
    · exact r.replyOk (r.received law l t) _ _ _
    · refine r.replyOk (engineLaw_markChanged _ ?_) _ _ _
      exact r.received law l t
  | pathLocked l t =>
    refine engineLaw_walkAdvance (r.replyOk ?_ _ _ _)
    exact engineLaw_of_same (r.received law l t) rfl rfl id ⟨rfl, rfl⟩ Iff.rfl
  | pathUnlocked l t =>
    refine r.replyOk ?_ _ _ _
    exact engineLaw_of_same (r.received law l t) rfl rfl id ⟨rfl, rfl⟩ Iff.rfl
  | pageLoaded l t =>
    unfold loadPage
    refine r.replyOk ?_ _ _ _
    exact engineLaw_of_same (r.received law l t) rfl rfl id ⟨rfl, rfl⟩ Iff.rfl
  | programTaken l t | eraseTaken l t => exact engineLaw_beginOnSector _ (r.startOp (r.received law l t) _ _ _ _)
  | ramChecked since t => exact r.advanceTo law t
  | attemptBegins attempt next => exact r.advanceTo law next
  | attemptEnds attempt t =>
    unfold afterEncoderRead
    split <;> exact r.advanceTo law t
  | markerRead reinit since t => exact engineLaw_of_same (r.advanceTo law t) rfl rfl id ⟨rfl, rfl⟩ Iff.rfl
  | startScanEnds since t reinit =>
    refine engineLaw_endStartup (engineCore_of_same law.core ?_ ?_)
    · split <;> simp
    · split <;> simp
  | rescanEnds o t => exact engineLaw_completeOp _ _ (engineCore_scanResults (r.advanceTo law t).core)
  | samplingBegins t => exact r.advanceTo law t
  | sampleFiled a t x => exact engineLaw_of_same (r.advanceTo law t) (by simp) (by simp) (by simp) (by simp) (by
      rw [link_of_links (s := advanceTo t s) (by simp)])
  | portReads x => exact engineLaw_startSource x law
  | walkReadEnds k cell g dropped since =>
    have ended := r.endRead law since 24
    simp only [finishWalkRead]
    split
    · exact ended
    · refine engineLaw_walkAdvance ?_
      exact ended
  | workBegins o => exact engineLaw_beginWork o law
  | eraseEnds o n t | programEnds o n p t => exact engineLaw_completeOp _ _ (engineCore_of_same law.core rfl id)
  | protectEnds o t =>
    unfold finishProtect
    exact engineLaw_completeOp _ _ (engineCore_of_same law.core (by simp) (by simp))
  | clearSectorEnds o n t => exact engineLaw_finishClearSector o n (r.advanceTo law t)

/-! ### A mode set written (R132) -/

theorem ModeSet.write_staging {α : Type} (x : α) (m : ModeSet α) : (m.write true x).inForce = m.inForce := rfl

@[simp] theorem ModeSet.isStaged_write {α : Type} (x : α) (m : ModeSet α) : (m.write false x).isStaged = false := rfl

theorem writeSet_staging (p : List Byte) (e : Engine) :
    (writeSet true p e).state = e.state ∧ (writeSet true p e).ms0.inForce = e.ms0.inForce ∧
      (writeSet true p e).ms1.inForce = e.ms1.inForce ∧ (writeSet true p e).ms2.inForce = e.ms2.inForce ∧
      (writeSet true p e).ms3.inForce = e.ms3.inForce := by
  unfold writeSet
  split <;> exact ⟨rfl, rfl, rfl, rfl, rfl⟩

theorem writeSet_unstaged {p : List Byte} {e : Engine} (unstaged : anyStaged e = false) :
    (writeSet false p e).state = e.state ∧ anyStaged (writeSet false p e) = false := by
  simp only [anyStaged, Bool.or_eq_false_iff] at unstaged ⊢
  unfold writeSet
  split <;> simp [unstaged]

/-- While the engine runs, contents are staged and nothing the law reads changes; otherwise they come into force at
once and the
engine is re-evaluated. -/
theorem engineLaw_writeMode (l : Link) (p : List Byte) {s : State} (law : EngineLaw s) :
    EngineLaw (writeMode l p s) := by
  refine linked_engineLaw.replyOk ?_ _ _ _
  cases runs : s.engine.state.runs with
  | true =>
    obtain ⟨set, conditions, running, pattern, -, waits⟩ := law
    obtain ⟨state, ms0, ms1, ms2, ms3⟩ := writeSet_staging p s.engine
    rw [if_pos rfl]
    unfold EngineLaw configured patternSelected at *
    simp only [engine_setEngine, timing_setEngine, link_setEngine, store_setEngine, state, ms0, ms1, ms2, ms3]
    refine ⟨set, conditions, running, pattern, fun still => ?_, waits⟩
    rw [runs] at still
    cases still
  | false =>
    obtain ⟨-, -, quiet⟩ := law.core
    obtain ⟨unstaged, frames⟩ := quiet runs
    obtain ⟨state, staged⟩ := writeSet_unstaged (p := p) unstaged
    rw [if_neg nofun]
    refine engineLaw_reevaluate ⟨fun running => ?_, fun pattern => ?_, fun _ => ⟨staged, frames⟩⟩
    · rw [engine_setEngine, state] at running
      simp [running, EngineState.runs] at runs
    · rw [engine_setEngine, state] at pattern
      simp [pattern, EngineState.runs] at runs

/-! ### The stream (R19 to R22, R28, R133) -/

theorem ModeSet.onSync_of_unstaged {α : Type} {m : ModeSet α} (unstaged : m.isStaged = false) : m.onSync = m := by
  unfold ModeSet.onSync
  split
  · next x staged => simp [ModeSet.isStaged, staged] at unstaged
  · rfl

theorem ModeSet.inForce_onSync {α : Type} {m : ModeSet α} (early : m.dueAtSync = false) :
    m.onSync.inForce = m.inForce := by
  unfold ModeSet.onSync ModeSet.dueAtSync at *
  split
  · next x staged =>
    simp only [staged, decide_eq_false_iff_not] at early
    rw [if_neg early]
  · rfl

/-- Following the pattern flag makes a run agree with it. -/
theorem engineCore_followSelection {s : State}
    (quiet : s.engine.state.runs = false → anyStaged s.engine = false ∧ s.timing.frames = []) :
    EngineCore (followSelection s) := by
  unfold followSelection
  split
  case h_1 running =>
    split
    case isTrue selected => exact ⟨nofun, fun _ => selected, nofun⟩
    case isFalse selected =>
      exact ⟨fun _ => Bool.eq_false_iff.2 selected, by simp [running],
        fun still => by simp [running, EngineState.runs] at still⟩
  case h_2 pattern =>
    split
    case isTrue selected => exact ⟨by simp [pattern], fun _ => selected,
        fun still => by simp [pattern, EngineState.runs] at still⟩
    case isFalse selected => exact ⟨fun _ => Bool.eq_false_iff.2 selected, nofun, nofun⟩
  case h_3 state | h_4 state => exact ⟨by simp [state], by simp [state], fun still => quiet still⟩

theorem engineCore_countStaged {s : State} (core : EngineCore s) : EngineCore (countStaged s) := by
  obtain ⟨running, pattern, quiet⟩ := core
  have counted : s.engine.state.runs = false → anyStaged { s.engine with
      ms0 := s.engine.ms0.onSync, ms1 := s.engine.ms1.onSync, ms2 := s.engine.ms2.onSync,
      ms3 := s.engine.ms3.onSync } = false ∧ s.timing.frames = [] := by
    intro still
    obtain ⟨unstaged, frames⟩ := quiet still
    simp only [anyStaged, Bool.or_eq_false_iff] at unstaged ⊢
    obtain ⟨⟨⟨ms0, ms1⟩, ms2⟩, ms3⟩ := unstaged
    simp [ModeSet.onSync_of_unstaged, ms0, ms1, ms2, ms3, frames]
  simp only [countStaged]
  split
  case isTrue =>
    refine engineCore_followSelection ?_
    simpa using counted
  case isFalse early =>
    have inForce := ModeSet.inForce_onSync (Bool.eq_false_iff.2 early)
    refine ⟨?_, ?_, ?_⟩
    · simpa [patternSelected, inForce] using running
    · simpa [patternSelected, inForce] using pattern
    · simpa using counted

theorem engineCore_decideSync {s : State} (core : EngineCore s) : EngineCore (decideSync s) := by
  have skipped : EngineCore (skipSync s) := engineCore_of_same core rfl id
  unfold decideSync
  split
  · split
    case isTrue room =>
      obtain ⟨-, runs, -⟩ := room
      obtain ⟨running, pattern, -⟩ := core
      refine ⟨running, pattern, fun still => ?_⟩
      rw [engine_setTiming, runs] at still
      cases still
    case isFalse => exact skipped
  · exact skipped

theorem engineLaw_applyEdge {s : State} (law : EngineLaw s) : EngineLaw (applyEdge s) := by
  have after {u : State} (core : EngineCore u) : EngineLaw (afterSync u) :=
    engineLaw_reevaluate (engineCore_decideSync (engineCore_countStaged core))
  unfold applyEdge
  split
  · exact law
  · have begun (v : State) (core : EngineCore v) : EngineCore (stopIfNeeded v) := by
      unfold stopIfNeeded
      split
      · exact (engineCore_leaveRunning v).1
      · exact core
    refine after (engineCore_of_same (begun _ (engineCore_of_same law.core (u := s.setTiming { s.timing with
      stream := .acquiring, lastSync := some s.now, period := 0, frameNumber := 0 }) rfl id)) ?_ ?_)
    · simp [beginAcquisition]
    · simp [beginAcquisition]
  · exact after (engineCore_of_same law.core rfl id)

/-! ### Frames -/

theorem engineLaw_onComputing {f : Entry → Computation → Engine → Entry × Engine} (moves : Progresses f) {s : State}
    (law : EngineLaw s) : EngineLaw (onComputing f s) := by
  obtain ⟨v, engine⟩ := withComputing_engine moves s.engine s.timing.frames
  refine engineLaw_of_same law ?_ rfl (fun none => ?_) ⟨rfl, rfl⟩ Iff.rfl
  · change engineView (withComputing f s.engine s.timing.frames).2 = _
    rw [engine]
    rfl
  · change (withComputing f s.engine s.timing.frames).1 = []
    rw [none]
    rfl

theorem engineLaw_setProgress (p : Progress) {s : State} (law : EngineLaw s) : EngineLaw (setProgress p s) := by
  refine engineLaw_of_same law rfl rfl (fun none => ?_) ⟨rfl, rfl⟩ Iff.rfl
  simp [setProgress, none, setFirstWaiting]

theorem engineLaw_notePredictions {m : MS0} {t : Instant} {cp : MapCopy} {s : State} (law : EngineLaw s) :
    EngineLaw (notePredictions m t cp s) := by
  have r := linked_engineLaw
  have noted (a : Axis) (p : Option AxisPrediction) {u : State} (law : EngineLaw u) :
      EngineLaw (notePrediction a cp p u) := by
    unfold notePrediction
    split
    · exact law
    · refine r.raiseIf ?_ _ _
      exact engineLaw_of_same law rfl rfl id ⟨rfl, rfl⟩ Iff.rfl
  exact noted .iris _ (noted .zoom _ (noted .focus _ law))

theorem engineLaw_computePattern (e : Entry) (x : Inputs) {s : State} (law : EngineLaw s) :
    EngineLaw (computePattern e x s) := by
  have noted := engineLaw_notePredictions (m := x.ms0) (t := e.target) (cp := x.copy) law
  refine engineLaw_setProgress _ ?_
  exact engineLaw_of_same noted rfl rfl id ⟨rfl, rfl⟩ Iff.rfl

theorem engineLaw_computeFrame (e : Entry) (x : Inputs) {s : State} (law : EngineLaw s) :
    EngineLaw (computeFrame e x s) := by
  have noted (c : Cache) : EngineLaw ((notePredictions x.ms0 e.target x.copy s).setCache c) :=
    engineLaw_notePredictions (m := x.ms0) (t := e.target) (cp := x.copy) law
  simp only [computeFrame]
  split
  · exact engineLaw_onComputing progresses_endComputation (engineLaw_setProgress _ (noted _))
  · exact engineLaw_setProgress _ (noted _)

/-- A record leaves a list that is not empty, so the engine runs. -/
theorem engineLaw_handOver (e : Entry) (d : Delivered) {rest : List Entry} {s : State} (law : EngineLaw s)
    (frames : s.timing.frames = e :: rest) : EngineLaw (handOver e d rest s) := by
  have r := linked_engineLaw
  have left : EngineLaw (s.setTiming { s.timing with frames := rest }) :=
    engineLaw_of_same law rfl rfl (by simp [frames]) ⟨rfl, rfl⟩ Iff.rfl
  refine r.raiseIf (r.raiseIf ?_ _ _) _ _
  unfold sendFrameReport
  split
  · exact r.handRecord (r.handRecord left _ _) _ _
  · exact r.handRecord left _ _

theorem engineLaw_reset {s : State} (engine : s.engine = .reset) (frames : s.timing.frames = []) : EngineLaw s := by
  unfold EngineLaw configured patternSelected anyStaged
  simp [engine, frames, Engine.reset, EngineState.runs, ModeSet.isStaged]

theorem engineLaw_of_effect (s u : State) (law : EngineLaw s) (effect : Effect s u) : EngineLaw u := by
  have r := linked_engineLaw
  cases effect with
  | quiet change => exact r.quiet law change
  | apart change => exact engineLaw_of_apart law change
  | formatReplaced l t | infoReplaced l t =>
    refine r.replyOk ?_ _ _ _
    exact engineLaw_of_same (r.received law l t) rfl rfl id ⟨rfl, rfl⟩ Iff.rfl
  | modeWritten l t => exact engineLaw_writeMode l _ (r.received law l t)
  | reinitialized => exact engineLaw_reset rfl rfl
  | resetLeft => exact engineLaw_reset rfl rfl
  | edgeCaptured t => exact engineLaw_applyEdge (r.advanceTo law t)
  | streamLost t => exact engineLaw_reevaluate (engineCore_of_same law.core (by simp) (by simp))
  | patternComputed e x => exact engineLaw_computePattern e x (r.advanceTo law e.compute)
  | computationBegins e x => exact engineLaw_computeFrame e x (r.advanceTo law e.compute)
  | cutOff t => exact engineLaw_onComputing progresses_endComputation (r.advanceTo law t)
  | recordLeaves e d rest frames => exact engineLaw_handOver e d (r.advanceTo law e.due) frames
  | fillEnds k cell since =>
    have ended : EngineLaw (endRead since 24 s) := r.endRead law since 24
    simp only [finishFill]
    split
    · rw [handCell_eq]
      refine engineLaw_onComputing (progresses_receiveCell _ _ _) ?_
      exact ended
    · exact ended

/-- Settles O8: whatever changes a condition of the engine's state is followed by its re-evaluation. -/
theorem stepKeepsEngineLaw : Obligations.StepKeepsEngineLaw :=
  step_keeps (fun _ _ law => law) (fun _ law => linked_engineLaw.tick law) (fun _ _ _ => engineLaw_reset rfl rfl)
    fun s u law effect => linked_engineLaw.settle (engineLaw_of_effect s u law effect)

end Sys2Proof.Machine
end

section
/-! PROOF. The law of the authority unit: only links that are UP hold authority or are in conflict. -/

namespace Sys2Proof.Machine

/-! ### What a resolution finds (R161) -/

theorem up_of_upWord {u : LinkUnit} {w : MasterWord} (word : upWord u = some w) : u.state = .up := by
  unfold upWord at word
  split at word
  case h_1 up => exact up
  all_goals cases word

/-- The holder a resolution finds is a link with a word. -/
theorem isSome_of_resolution_holder {b a : Option MasterWord} {l : Link} (outcome : resolution b a = .holder (some l)) :
    (match l with | .body => b | .accessory => a).isSome = true := by
  have alone {m : Link} {w : MasterWord} (found : resolveAlone m w = .holder (some l)) : m = l := by
    unfold resolveAlone at found
    split at found <;> cases found <;> rfl
  cases b with
  | none =>
    cases a with
    | none => cases outcome
    | some w => rw [← alone outcome]; rfl
  | some v =>
    cases a with
    | none => rw [← alone outcome]; rfl
    | some w => cases l <;> rfl

/-- A conflict is between two words. -/
theorem isSome_of_resolution_conflict {b a : Option MasterWord} (outcome : resolution b a = .conflict) :
    b.isSome = true ∧ a.isSome = true := by
  have never (l : Link) (w : MasterWord) : resolveAlone l w ≠ .conflict := by
    unfold resolveAlone
    split <;> nofun
  cases b with
  | none =>
    cases a with
    | none => cases outcome
    | some w => exact absurd outcome (never _ _)
  | some v =>
    cases a with
    | none => exact absurd outcome (never _ _)
    | some w => exact ⟨rfl, rfl⟩

/-- Equal seeds are those of two words. -/
theorem isSome_of_resolution_equalSeeds {b a : Option MasterWord} (outcome : resolution b a = .equalSeeds) :
    b.isSome = true ∧ a.isSome = true := by
  have never (l : Link) (w : MasterWord) : resolveAlone l w ≠ .equalSeeds := by
    unfold resolveAlone
    split <;> nofun
  cases b with
  | none =>
    cases a with
    | none => cases outcome
    | some w => exact absurd outcome (never _ _)
  | some v =>
    cases a with
    | none => exact absurd outcome (never _ _)
    | some w => exact ⟨rfl, rfl⟩

theorem up_of_isSome_upWord {u : LinkUnit} (word : (upWord u).isSome = true) : u.state = .up := by
  obtain ⟨w, word⟩ := Option.isSome_iff_exists.1 word
  exact up_of_upWord word

/-! ### The law -/

theorem authorityLaw_of_same {s u : State} (law : AuthorityLaw s)
    (auth : u.auth.holder = s.auth.holder ∧ u.auth.conflict = s.auth.conflict ∧
      u.auth.equalSeeds = s.auth.equalSeeds) (links : SameUp u.links s.links) : AuthorityLaw u := by
  have up (l : Link) : (u.link l).state = .up ↔ (s.link l).state = .up := links l
  obtain ⟨holder, conflict, seeds⟩ := auth
  unfold AuthorityLaw at *
  simpa only [holder, conflict, seeds, up] using law

theorem sameUp_of_eq {x y : PerLink LinkUnit} (same : x = y) : SameUp x y := by
  rw [same]
  exact fun _ => Iff.rfl

/-- Authority resolved agrees with the links that are UP. -/
theorem authorityLaw_resolveAuthority {s : State} (seeds : s.auth.equalSeeds ≤ 7) :
    AuthorityLaw (resolveAuthority s) := by
  simp only [resolveAuthority]
  split
  case h_1 h outcome =>
    unfold AuthorityLaw
    simp only [auth_setHolder, link_setHolder, Bool.false_eq_true, false_implies, true_and]
    refine ⟨fun l holds => ?_, by split <;> omega⟩
    subst holds
    have word := isSome_of_resolution_holder outcome
    cases l <;> exact up_of_isSome_upWord word
  case h_2 outcome =>
    obtain ⟨body, accessory⟩ := isSome_of_resolution_conflict outcome
    unfold AuthorityLaw
    simp only [auth_setHolder, link_setHolder]
    exact ⟨nofun, fun _ => ⟨trivial, up_of_isSome_upWord body, up_of_isSome_upWord accessory⟩, seeds⟩
  case h_3 outcome =>
    obtain ⟨body, accessory⟩ := isSome_of_resolution_equalSeeds outcome
    split
    case isTrue more =>
      unfold AuthorityLaw
      simp only [auth_equalSeedRestart]
      exact ⟨nofun, nofun, by omega⟩
    case isFalse =>
      unfold AuthorityLaw
      simp only [auth_setHolder, link_setHolder]
      exact ⟨nofun, fun _ => ⟨trivial, up_of_isSome_upWord body, up_of_isSome_upWord accessory⟩, le_rfl⟩

theorem authorityLaw_reevaluate {s : State} (law : AuthorityLaw s) : AuthorityLaw (reevaluate s) :=
  authorityLaw_of_same law (by simp) (sameUp_of_eq (by simp))

theorem authorityLaw_startReports {s : State} (law : AuthorityLaw s) : AuthorityLaw (startReports s) :=
  authorityLaw_of_same law (by simp) (sameUp_of_eq (by simp))

theorem authorityLaw_enterUp (l : Link) {s : State} (law : AuthorityLaw s) : AuthorityLaw (enterUp l s) := by
  obtain ⟨-, -, seeds⟩ := law
  have resolved (u : LinkUnit) : AuthorityLaw
      (resolveAuthority (raiseOn (otherLink l) .peerLinkChanged (s.setLink l u))) :=
    authorityLaw_resolveAuthority (by simpa using seeds)
  simp only [enterUp]
  cases l with
  | body => exact authorityLaw_reevaluate (resolved _)
  | accessory =>
    refine authorityLaw_startReports ?_
    exact resolved _

theorem linked_authorityLaw : Linked AuthorityLaw where
  pending _ law := law
  free _ law := law
  time _ law := law
  links _ same law := authorityLaw_of_same law ⟨rfl, rfl, rfl⟩ same
  events _ law := law
  reinit _ law := law
  taken _ law := law
  waiting _ law := law
  portFreed law := law
  reports _ law := law
  left l law := authorityLaw_reevaluate (authorityLaw_resolveAuthority (by simpa using law.2.2))
  entered l law _ _ := authorityLaw_enterUp l law

theorem authorityLaw_reset {s : State} (auth : s.auth = .reset) : AuthorityLaw s := by
  unfold AuthorityLaw
  rw [auth]
  exact ⟨nofun, nofun, Nat.zero_le 7⟩

theorem authorityLaw_markChanged (n : Nat) {s : State} (law : AuthorityLaw s) : AuthorityLaw (markChanged n s).2 := by
  rcases markChanged_snd n s with same | released
  · rwa [same]
  · rw [released]
    exact law

theorem authorityLaw_walkAdvance {s : State} (law : AuthorityLaw s) : AuthorityLaw (walkAdvance s) :=
  authorityLaw_of_same law (by simp) (sameUp_of_eq (by simp))

theorem authorityLaw_beginOnSector (n : BitVec 3) {s : State} (law : AuthorityLaw s) :
    AuthorityLaw (beginOnSector n s) :=
  authorityLaw_of_same law (by simp) (sameUp_of_eq (by simp))

theorem authorityLaw_endStartup {s : State} (law : AuthorityLaw s) : AuthorityLaw (endStartup s) := by
  have r := linked_authorityLaw
  have settled := authorityLaw_reevaluate (show AuthorityLaw (anchored s) from law)
  unfold endStartup
  refine r.abilitySend (r.abilitySend ?_ _ _) _ _
  exact settled

theorem authorityLaw_of_apart {s u : State} (law : AuthorityLaw s) (change : Apart s u) : AuthorityLaw u := by
  have r := linked_authorityLaw
  have kept (v : State) (auth : v.auth = s.auth) (links : v.links = s.links) : AuthorityLaw v :=
    authorityLaw_of_same law (by simp [auth]) (sameUp_of_eq links)
  cases change with
  | anchorSet l t =>
    refine r.replyOk ?_ _ _ _
    exact r.received law l t
  | anchorTaken l t =>
    unfold anchorHere
    split
    · exact r.received law l t
    · refine r.replyOk ?_ _ _ _
      exact r.received law l t
  | markSet l t =>
    refine r.replyOk (authorityLaw_markChanged _ ?_) _ _ _
    exact r.received law l t
  | markDeleted l t =>
    unfold deleteMark
    split
    · exact r.replyOk (r.received law l t) _ _ _
    · refine r.replyOk (authorityLaw_markChanged _ ?_) _ _ _
      exact r.received law l t
  | pathLocked l t =>
    refine authorityLaw_walkAdvance (r.replyOk ?_ _ _ _)
    exact r.received law l t
  | pathUnlocked l t | pageLoaded l t =>
    refine r.replyOk ?_ _ _ _
    exact r.received law l t
  | programTaken l t | eraseTaken l t => exact authorityLaw_beginOnSector _ (r.startOp (r.received law l t) _ _ _ _)
  | startScanEnds since t reinit =>
    refine authorityLaw_endStartup (kept _ ?_ ?_)
    · split <;> simp
    · split <;> simp
  | attemptEnds attempt t =>
    unfold afterEncoderRead
    split <;> exact law
  | _ => exact kept _ (by simp) (by simp)

theorem authorityLaw_of_effect (s u : State) (law : AuthorityLaw s) (effect : Effect s u) : AuthorityLaw u := by
  have r := linked_authorityLaw
  have kept (v : State) (auth : v.auth = s.auth) (links : v.links = s.links) : AuthorityLaw v :=
    authorityLaw_of_same law (by simp [auth]) (sameUp_of_eq links)
  cases effect with
  | quiet change => exact r.quiet law change
  | apart change => exact authorityLaw_of_apart law change
  | formatReplaced l t | infoReplaced l t =>
    refine r.replyOk ?_ _ _ _
    exact r.received law l t
  | modeWritten l t =>
    refine r.replyOk ?_ _ _ _
    split
    · exact r.received law l t
    · refine authorityLaw_reevaluate ?_
      exact r.received law l t
  | reinitialized => exact authorityLaw_reset rfl
  | resetLeft => exact authorityLaw_reset rfl
  | recordLeaves e d rest =>
    refine r.raiseIf (r.raiseIf ?_ _ _) _ _
    unfold sendFrameReport
    split
    · refine r.handRecord (r.handRecord ?_ _ _) _ _
      exact law
    · refine r.handRecord ?_ _ _
      exact law
  | _ => exact kept _ (by simp) (by simp)

/-- Settles O9: whatever takes a link into or out of UP resolves authority again. -/
theorem stepKeepsAuthorityLaw : Obligations.StepKeepsAuthorityLaw :=
  step_keeps (fun _ _ law => law) (fun _ law => linked_authorityLaw.tick law) (fun _ _ _ => authorityLaw_reset rfl)
    fun s u law effect => linked_authorityLaw.settle (authorityLaw_of_effect s u law effect)

end Sys2Proof.Machine
end

section
/-! PROOF. The law of the links: the bounds of their reply lists, and what a link holds in and out of UP. -/

namespace Sys2Proof.Machine

/-! ### The law in its parts -/

/-- What the law says of one link's unit, `out` telling whether a READ STORE waits or is unanswered. -/
def UnitOk (l : Link) (out : Bool) (u : LinkUnit) : Prop :=
  u.replies.length + u.heldBack.length + (if l = .accessory ∧ out = true then 1 else 0) ≤ 4 ∧
  (u.heldBack ≠ [] → l = .accessory ∧ out = true) ∧
  (u.state ≠ .up → u.records = [] ∧ u.replies = [] ∧ u.renegotiateDue = false ∧ (l = .accessory → out = false)) ∧
  (u.state = .up → u.abilityWaiting = false ∧ u.sendDue = none ∧ u.acceptedWord.isSome = true ∧
    u.timeout.isSome = true) ∧
  (l = .body → (u.state = .up ↔ u.recordLevel.isSome = true))

/-- At most one READ STORE waits or is read. -/
def ReadsOk (x : Store) : Prop :=
  x.readStoreWaiting.length ≤ 1 ∧ ∀ r t, x.port = some ⟨.readStore r false, t⟩ → x.readStoreWaiting = []

theorem linkLaw_iff (s : State) : LinkLaw s ↔ (∀ l, UnitOk l (readStoreOutstanding s) (s.link l)) ∧ ReadsOk s.store ∧
    (s.started = false → ∀ l, (s.link l).state = .silent) := by
  unfold LinkLaw ReadsOk
  constructor
  · rintro ⟨units, waits, port, level, silent⟩
    refine ⟨fun l => ?_, ⟨waits, port⟩, silent⟩
    obtain ⟨count, held, down, up⟩ := units l
    exact ⟨count, held, down, up, by rintro rfl; exact level⟩
  · rintro ⟨units, ⟨waits, port⟩, silent⟩
    refine ⟨fun l => ?_, waits, port, ?_, silent⟩
    · obtain ⟨count, held, down, up, -⟩ := units l
      exact ⟨count, held, down, up⟩
    · obtain ⟨-, -, -, -, level⟩ := units .body
      exact level rfl

theorem UnitOk.heldBack_of_down {l : Link} {out : Bool} {u : LinkUnit} (ok : UnitOk l out u) (down : u.state ≠ .up) :
    u.heldBack = [] := by
  obtain ⟨-, held, quiet, -⟩ := ok
  obtain ⟨-, -, -, free⟩ := quiet down
  by_contra some
  obtain ⟨accessory, outstanding⟩ := held some
  rw [free accessory] at outstanding
  cases outstanding

/-- Outside UP a unit is well when it holds nothing to send but ABILITY frames. -/
theorem unitOk_of_down {l : Link} {out : Bool} {u : LinkUnit} (down : u.state ≠ .up)
    (sends : u.records = [] ∧ u.replies = [] ∧ u.heldBack = [] ∧ u.renegotiateDue = false)
    (free : l = .accessory → out = false) (level : l = .body → u.recordLevel = none) : UnitOk l out u := by
  obtain ⟨records, replies, held, due⟩ := sends
  refine ⟨?_, fun some => absurd held some, fun _ => ⟨records, replies, due, free⟩, fun up => absurd up down,
    fun body => ?_⟩
  · rw [replies, held]
    split <;> simp
  · exact iff_of_false down (by simp [level body])

/-- A unit that stays out of UP keeps the law when what it would send stays the same. -/
theorem UnitOk.stays_down {l : Link} {out : Bool} {u v : LinkUnit} (ok : UnitOk l out u) (down : u.state ≠ .up)
    (stays : v.state ≠ .up) (sends : v.records = u.records ∧ v.replies = u.replies ∧ v.heldBack = u.heldBack ∧
      v.renegotiateDue = u.renegotiateDue) (level : v.recordLevel = u.recordLevel) : UnitOk l out v := by
  have held := ok.heldBack_of_down down
  obtain ⟨-, -, quiet, -, levels⟩ := ok
  obtain ⟨records, replies, due, free⟩ := quiet down
  obtain ⟨records', replies', held', due'⟩ := sends
  refine unitOk_of_down stays ⟨records'.trans records, replies'.trans replies, held'.trans held, due'.trans due⟩ free
    fun body => ?_
  rw [level, ← Option.not_isSome_iff_eq_none]
  exact fun some => down ((levels body).2 some)

theorem UnitOk.up_of_outstanding {u : LinkUnit} (ok : UnitOk .accessory true u) : u.state = .up := by
  obtain ⟨-, -, quiet, -⟩ := ok
  by_contra down
  obtain ⟨-, -, -, answered⟩ := quiet down
  cases answered rfl

/-! ### The law of a state from that of another -/

theorem linkLaw_of_same {s u : State} (law : LinkLaw s) (links : u.links = s.links)
    (out : readStoreOutstanding u = readStoreOutstanding s) (reads : ReadsOk u.store)
    (started : u.started = s.started) :
    LinkLaw u := by
  rw [linkLaw_iff] at law ⊢
  obtain ⟨units, -, silent⟩ := law
  have link : u.link = s.link := funext (link_of_links links)
  rw [link, out, started]
  exact ⟨units, reads, silent⟩

theorem linkLaw_of_kept {s u : State} (law : LinkLaw s) (links : u.links = s.links)
    (waiting : u.store.readStoreWaiting = s.store.readStoreWaiting) (port : u.store.port = s.store.port)
    (started : u.started = s.started) : LinkLaw u := by
  refine linkLaw_of_same law links ?_ ?_ started
  · unfold readStoreOutstanding
    rw [waiting, port]
  · obtain ⟨-, reads, -⟩ := (linkLaw_iff s).1 law
    unfold ReadsOk
    rwa [waiting, port]

/-- Another unit in the place of a link's keeps the law when it is well itself. -/
theorem linkLaw_setLink {l : Link} {u : LinkUnit} {s : State} (law : LinkLaw s)
    (ok : UnitOk l (readStoreOutstanding s) u) (silent : s.started = false → u.state = .silent) :
    LinkLaw (s.setLink l u) := by
  rw [linkLaw_iff] at law ⊢
  obtain ⟨units, reads, allSilent⟩ := law
  refine ⟨fun k => ?_, reads, fun early k => ?_⟩
  · change UnitOk k (readStoreOutstanding s) _
    by_cases same : k = l
    · subst same
      rwa [link_setLink_same]
    · rw [link_setLink_of_ne _ _ same]
      exact units k
  · by_cases same : k = l
    · subst same
      rw [link_setLink_same]
      exact silent early
    · rw [link_setLink_of_ne _ _ same]
      exact allSilent early k

theorem LinkLaw.unit {s : State} (law : LinkLaw s) (l : Link) : UnitOk l (readStoreOutstanding s) (s.link l) :=
  ((linkLaw_iff s).1 law).1 l

theorem LinkLaw.reads {s : State} (law : LinkLaw s) : ReadsOk s.store := by
  obtain ⟨-, reads, -⟩ := (linkLaw_iff s).1 law
  exact reads

theorem LinkLaw.silent {s : State} (law : LinkLaw s) (early : s.started = false) (l : Link) :
    (s.link l).state = .silent := by
  obtain ⟨-, -, silent⟩ := (linkLaw_iff s).1 law
  exact silent early l

theorem LinkLaw.started {s : State} (law : LinkLaw s) {l : Link} (other : (s.link l).state ≠ .silent) :
    s.started = true := by
  by_contra early
  exact other (law.silent (by simpa using early) l)

/-- A unit in the same state that is well. -/
theorem linkLaw_setLink_still {l : Link} {u : LinkUnit} {s : State} (law : LinkLaw s)
    (ok : UnitOk l (readStoreOutstanding s) u) (state : u.state = (s.link l).state) : LinkLaw (s.setLink l u) :=
  linkLaw_setLink law ok fun early => state.trans (law.silent early l)

/-! ### Parsers, timers and transmitters -/

theorem unitOk_parser {l : Link} {out : Bool} {u : LinkUnit} (ok : UnitOk l out u) (x : Parser) :
    UnitOk l out { u with parser := x } := ok

theorem unitOk_sending {l : Link} {out : Bool} {u : LinkUnit} (ok : UnitOk l out u) (x : Option (TxFrame × Instant)) :
    UnitOk l out { u with sending := x } := ok

theorem unitOk_timeout {l : Link} {out : Bool} {u : LinkUnit} (ok : UnitOk l out u) (x : Instant) :
    UnitOk l out { u with timeout := some x } := by
  obtain ⟨count, held, down, up, level⟩ := ok
  refine ⟨count, held, down, fun state => ?_, level⟩
  obtain ⟨waiting, due, word, -⟩ := up state
  exact ⟨waiting, due, word, rfl⟩

theorem linkLaw_startTransmit (l : Link) {s : State} (law : LinkLaw s) : LinkLaw (startTransmit l s) := by
  obtain ⟨count, held, down, up, level⟩ := law.unit l
  simp only [startTransmit]
  split
  case isTrue => exact law
  case isFalse =>
    split
    case h_1 f fs records =>
      refine linkLaw_setLink_still law ⟨count, held, fun state => ?_, up, level⟩ rfl
      obtain ⟨none, -⟩ := down state
      rw [records] at none
      cases none
    case h_2 =>
      split
      case h_1 f fs replies =>
        rw [replies, List.length_cons] at count
        refine linkLaw_setLink_still law ⟨?_, held, fun state => ?_, up, level⟩ rfl
        · dsimp only
          omega
        · obtain ⟨-, none, -⟩ := down state
          rw [replies] at none
          cases none
      case h_2 =>
        split
        case isTrue =>
          refine linkLaw_setLink_still law ⟨count, held, down, fun state => ?_, level⟩ rfl
          obtain ⟨-, due, word, timeout⟩ := up state
          exact ⟨rfl, due, word, timeout⟩
        case isFalse => exact law

/-- The replies of a link, with the refusals behind a READ STORE and the place held for it (R149). -/
def replyCount (l : Link) (s : State) : Nat :=
  (s.link l).replies.length + (s.link l).heldBack.length +
    if l = .accessory ∧ readStoreOutstanding s = true then 1 else 0

theorem Serves.up {l : Link} {s : State} (serves : Serves l s) : (s.link l).state = .up := by
  obtain ⟨-, up, -⟩ := serves
  exact up

theorem Serves.room {l : Link} {s : State} (serves : Serves l s) : replyCount l s ≤ 3 := by
  obtain ⟨-, -, -, room⟩ := serves
  unfold replyListFull at room
  unfold replyCount
  simp only [Bool.and_eq_true, decide_eq_true_eq, decide_eq_false_iff_not, not_le] at room
  exact Nat.le_of_lt_succ room

/-- A reply joins the list of a link that is UP and has a place. -/
theorem linkLaw_joinReply {l : Link} (k : Byte) (p : List Byte) {s : State} (law : LinkLaw s)
    (up : (s.link l).state = .up) (room : replyCount l s ≤ 3) : LinkLaw (joinReply l k p s) := by
  obtain ⟨-, held, -, ups, level⟩ := law.unit l
  refine linkLaw_startTransmit l (linkLaw_setLink_still law ⟨?_, held, fun down => absurd up down, ups, level⟩ rfl)
  unfold replyCount at room
  dsimp only
  rw [List.length_append, List.length_singleton]
  omega

theorem linkLaw_handRecord {l : Link} (f : TxFrame) {s : State} (law : LinkLaw s) (up : (s.link l).state = .up) :
    LinkLaw (handRecord l f s) := by
  obtain ⟨count, held, -, ups, level⟩ := law.unit l
  exact linkLaw_startTransmit l (linkLaw_setLink_still law ⟨count, held, fun down => absurd up down, ups, level⟩ rfl)

theorem linkLaw_abilitySend {l : Link} (t : Instant) {s : State} (law : LinkLaw s) (down : (s.link l).state ≠ .up) :
    LinkLaw (abilitySend l t s) :=
  linkLaw_startTransmit l (linkLaw_setLink_still law
    ((law.unit l).stays_down (v := { s.link l with abilityWaiting := true, sendDue := some t }) down down
      ⟨rfl, rfl, rfl, rfl⟩ rfl) rfl)

theorem linkLaw_raiseOn (l : Link) (e : Event) {s : State} (law : LinkLaw s) : LinkLaw (raiseOn l e s) :=
  linkLaw_of_kept law (by simp) (by simp) (by simp) (by simp [State.started])

theorem linkLaw_raiseIf (b : Bool) (e : Event) {s : State} (law : LinkLaw s) : LinkLaw (raiseIf b e s) :=
  linkLaw_of_kept law (by simp) (by simp) (by simp) (by simp [State.started])

theorem linkLaw_settle {s : State} (law : LinkLaw s) : LinkLaw (settle s) :=
  linkLaw_of_kept law (by simp) (by simp) (by simp) (by simp [State.started])

theorem linkLaw_reevaluate {s : State} (law : LinkLaw s) : LinkLaw (reevaluate s) :=
  linkLaw_of_kept law (by simp) (by simp) (by simp) (by simp [State.started])

theorem linkLaw_advanceTo (t : Instant) {s : State} (law : LinkLaw s) : LinkLaw (advanceTo t s) := law

theorem linkLaw_frameEnds (l : Link) (t : Instant) {s : State} (law : LinkLaw s) : LinkLaw (frameEnds l t s) :=
  linkLaw_setLink_still (s := advanceTo t s) law (unitOk_parser (law.unit l) _) rfl

theorem linkLaw_received (l : Link) (t : Instant) {s : State} (law : LinkLaw s) : LinkLaw (received l t s) := by
  have timed := linkLaw_setLink_still law (unitOk_parser (unitOk_timeout (law.unit l)
    (addInterval (laterOf t s.timing.timebase) 250000)) .hunting) rfl
  exact timed

/-! ### The replies of READ STORE (R69, R80, R149) -/

@[simp] theorem readStoreOutstanding_setLink (l : Link) (u : LinkUnit) (s : State) :
    readStoreOutstanding (s.setLink l u) = readStoreOutstanding s := rfl

theorem outstanding_of_waiting {s : State} (waiting : s.store.readStoreWaiting ≠ []) :
    readStoreOutstanding s = true := by
  simp [readStoreOutstanding, waiting]

theorem outstanding_of_port {s : State} {r : ReadRequest} {t : Instant}
    (port : s.store.port = some ⟨.readStore r false, t⟩) : readStoreOutstanding s = true := by
  simp [readStoreOutstanding, port]

theorem outstanding_eq_false_iff {s : State} : readStoreOutstanding s = false ↔
    s.store.readStoreWaiting = [] ∧ ∀ r t, s.store.port ≠ some ⟨.readStore r false, t⟩ := by
  constructor
  · intro none
    refine ⟨?_, fun r t port => ?_⟩
    · by_contra waiting
      rw [outstanding_of_waiting waiting] at none
      cases none
    · rw [outstanding_of_port port] at none
      cases none
  · rintro ⟨waiting, port⟩
    unfold readStoreOutstanding
    rw [waiting]
    split
    case h_1 r dropped t read =>
      cases dropped with
      | true => rfl
      | false => exact absurd read (port r t)
    case h_2 => rfl

theorem unitOk_body {out : Bool} {u : LinkUnit} (ok : UnitOk .body out u) (out' : Bool) : UnitOk .body out' u := by
  obtain ⟨count, held, down, up, level⟩ := ok
  refine ⟨by simpa using count, fun some => ?_, fun state => ?_, up, level⟩
  · obtain ⟨none, -⟩ := held some
    cases none
  · obtain ⟨records, replies, due, -⟩ := down state
    exact ⟨records, replies, due, nofun⟩

theorem replyCount_setLink_same (l : Link) (u : LinkUnit) (s : State) : replyCount l (s.setLink l u) =
    u.replies.length + u.heldBack.length + if l = .accessory ∧ readStoreOutstanding s = true then 1 else 0 := by
  unfold replyCount
  rw [link_setLink_same]
  rfl

theorem replyCount_setLink_of_ne {l k : Link} (u : LinkUnit) (s : State) (other : k ≠ l) :
    replyCount k (s.setLink l u) = replyCount k s := by
  unfold replyCount
  rw [link_setLink_of_ne _ _ other]
  rfl

theorem replyCount_setLink_le {l : Link} {u : LinkUnit} {s : State} (k : Link)
    (fewer : u.replies.length + u.heldBack.length ≤ (s.link l).replies.length + (s.link l).heldBack.length) :
    replyCount k (s.setLink l u) ≤ replyCount k s := by
  by_cases same : k = l
  · subst same
    rw [replyCount_setLink_same]
    exact Nat.add_le_add_right fewer _
  · exact (replyCount_setLink_of_ne u s same).le

/-- Sending takes frames off the lists and puts none on them. -/
theorem replyCount_startTransmit_le (l k : Link) (s : State) : replyCount k (startTransmit l s) ≤ replyCount k s := by
  simp only [startTransmit]
  split
  case isTrue => exact le_rfl
  case isFalse =>
    split
    case h_1 => exact replyCount_setLink_le k le_rfl
    case h_2 =>
      split
      case h_1 f fs replies => exact replyCount_setLink_le k (by simp [replies])
      case h_2 =>
        split
        · exact replyCount_setLink_le k le_rfl
        · exact le_rfl

/-- A unit whose READ STORE has been answered: the reply, and behind it the refusals it held back. -/
def answeredUnit (p : List Byte) (u : LinkUnit) : LinkUnit :=
  { u with replies := u.replies ++ ⟨0x44, p⟩ :: u.heldBack, heldBack := [] }

theorem answerReadStore_eq (p : List Byte) (s : State) :
    answerReadStore p s = startTransmit .accessory (s.setLink .accessory (answeredUnit p (s.link .accessory))) := rfl

theorem length_replies_answeredUnit (p : List Byte) (u : LinkUnit) :
    (answeredUnit p u).replies.length = u.replies.length + u.heldBack.length + 1 := by
  simp [answeredUnit, Nat.add_assoc]

theorem unitOk_answered (p : List Byte) {u : LinkUnit} (ok : UnitOk .accessory true u) :
    UnitOk .accessory false (answeredUnit p u) := by
  have up := ok.up_of_outstanding
  obtain ⟨count, -, -, ups, -⟩ := ok
  simp only [and_self, if_true] at count
  refine ⟨?_, fun some => absurd rfl some, fun down => absurd up down, ups, nofun⟩
  rw [length_replies_answeredUnit]
  simpa [answeredUnit] using count

/-- An unanswered READ STORE that is answered gives its place to its reply, and the refusals behind it follow. -/
theorem linkLaw_answered {s u : State} (p : List Byte) (law : LinkLaw s) (before : readStoreOutstanding s = true)
    (links : u.links = s.links) (after : readStoreOutstanding u = false) (started : u.started = s.started) :
    LinkLaw (answerReadStore p u) := by
  have accessory := law.unit .accessory
  rw [before] at accessory
  have up := accessory.up_of_outstanding
  obtain ⟨none, port⟩ := outstanding_eq_false_iff.1 after
  have link : u.link = s.link := funext (link_of_links links)
  rw [answerReadStore_eq, link]
  refine linkLaw_startTransmit .accessory ((linkLaw_iff _).2
    ⟨fun l => ?_, ⟨by simp [none], fun r t read => absurd read (port r t)⟩, fun early l => ?_⟩)
  · rw [readStoreOutstanding_setLink, after]
    cases l with
    | body =>
      rw [link_setLink_of_ne _ _ (by decide), link]
      exact unitOk_body (law.unit .body) false
    | accessory =>
      rw [link_setLink_same]
      exact unitOk_answered p accessory
  · have silent := law.silent (started ▸ early) .accessory
    rw [up] at silent
    cases silent

theorem replyCount_answered_le {s u : State} (p : List Byte) (l : Link) (before : readStoreOutstanding s = true)
    (links : u.links = s.links) (after : readStoreOutstanding u = false) :
    replyCount l (answerReadStore p u) ≤ replyCount l s := by
  have link : u.link = s.link := funext (link_of_links links)
  rw [answerReadStore_eq]
  refine (replyCount_startTransmit_le .accessory l _).trans ?_
  cases l with
  | body =>
    rw [replyCount_setLink_of_ne _ _ (by decide)]
    simp [replyCount, link]
  | accessory =>
    rw [replyCount_setLink_same, length_replies_answeredUnit, after, link]
    simp [replyCount, before, answeredUnit]

/-- Dismissing the waiting reads answers the one there can be, or does nothing (R80). -/
theorem dismissReads_cases {s : State} (law : LinkLaw s) : dismissReads s = s ∨ readStoreOutstanding s = true ∧
    ∃ u, dismissReads s = answerReadStore [Code.busy.byte] u ∧ u.links = s.links ∧ readStoreOutstanding u = false ∧
      u.started = s.started := by
  obtain ⟨waits, port⟩ := law.reads
  unfold dismissReads
  cases waiting : s.store.readStoreWaiting with
  | nil =>
    have same : s.setStore { s.store with readStoreWaiting := [] } = s := by
      rw [← waiting]
      rfl
    exact .inl same
  | cons r rs =>
    right
    rw [waiting, List.length_cons] at waits
    have one : (r :: rs).length = 1 := by rw [List.length_cons]; omega
    rw [one]
    refine ⟨outstanding_of_waiting (by simp [waiting]), _, rfl, rfl, ?_, rfl⟩
    refine outstanding_eq_false_iff.2 ⟨rfl, fun r t read => ?_⟩
    have none := port r t read
    rw [waiting] at none
    cases none

theorem linkLaw_dismissReads {s : State} (law : LinkLaw s) : LinkLaw (dismissReads s) := by
  rcases dismissReads_cases law with same | ⟨before, u, answers, links, after, started⟩
  · rwa [same]
  · rw [answers]
    exact linkLaw_answered _ law before links after started

theorem replyCount_dismissReads_le {s : State} (law : LinkLaw s) (l : Link) :
    replyCount l (dismissReads s) ≤ replyCount l s := by
  rcases dismissReads_cases law with same | ⟨before, u, answers, links, after, -⟩
  · rw [same]
  · rw [answers]
    exact replyCount_answered_le _ l before links after

theorem state_dismissReads {s : State} (law : LinkLaw s) (l : Link) :
    ((dismissReads s).link l).state = (s.link l).state := by
  rcases dismissReads_cases law with same | ⟨-, u, answers, links, -⟩
  · rw [same]
  · have link : u.link l = s.link l := link_of_links links l
    rw [answers, answerReadStore_eq, state_startTransmit_any, state_setLink, ← link]
    split
    case isTrue same => rw [same]; rfl
    case isFalse => rfl

/-- An operation taken dismisses the waiting reads and then replies. -/
theorem linkLaw_startOp {l : Link} (x : StoreOpName) (n : Option (BitVec 3)) (p : Option (BitVec 8)) {s : State}
    (law : LinkLaw s) (up : (s.link l).state = .up) (room : replyCount l s ≤ 3) : LinkLaw (startOp l x n p s) := by
  have taken : LinkLaw (s.setStore
      { s.store with op := some { name := x, sector := n, page := p, working := none } }) :=
    linkLaw_of_kept law rfl rfl rfl rfl
  unfold startOp
  refine linkLaw_joinReply _ _ (linkLaw_dismissReads taken) ?_ ?_
  · rw [state_dismissReads taken]
    exact up
  · exact (replyCount_dismissReads_le taken l).trans room

/-! ### The exchange and the coming and going of UP (9.1, 9.2) -/

section
variable {l : Link} {s : State} (law : LinkLaw s)
include law

/-- Outside UP a link may take up any other state outside UP once start-up has ended. -/
theorem linkLaw_setLink_down {u : LinkUnit} (started : s.started = true) (down : (s.link l).state ≠ .up)
    (stays : u.state ≠ .up) (sends : u.records = (s.link l).records ∧ u.replies = (s.link l).replies ∧
      u.heldBack = (s.link l).heldBack ∧ u.renegotiateDue = (s.link l).renegotiateDue)
    (level : u.recordLevel = (s.link l).recordLevel) : LinkLaw (s.setLink l u) :=
  linkLaw_setLink law ((law.unit l).stays_down down stays sends level) fun early => by
    rw [started] at early
    cases early

theorem linkLaw_enterDetect (n : Nat) (w : Option MasterWord) (started : s.started = true)
    (down : (s.link l).state ≠ .up) : LinkLaw (enterDetect l n w s) :=
  linkLaw_abilitySend _ (linkLaw_setLink_down law started down nofun ⟨rfl, rfl, rfl, rfl⟩ rfl)
    (by rw [link_setLink_same]; nofun)

theorem linkLaw_enterSilent (started : s.started = true) (down : (s.link l).state ≠ .up) :
    LinkLaw (enterSilent l s) :=
  linkLaw_abilitySend _ (linkLaw_setLink_down law started down nofun ⟨rfl, rfl, rfl, rfl⟩ rfl)
    (by rw [link_setLink_same]; nofun)

theorem linkLaw_enterAcknowledge (w : MasterWord) (started : s.started = true) (down : (s.link l).state ≠ .up) :
    LinkLaw (enterAcknowledge l w s) :=
  linkLaw_abilitySend _ (linkLaw_setLink_down law started down nofun ⟨rfl, rfl, rfl, rfl⟩ rfl)
    (by rw [link_setLink_same]; nofun)

theorem linkLaw_countWord (w : MasterWord) (started : s.started = true) (down : (s.link l).state ≠ .up) :
    LinkLaw (countWord l w s) := by
  have acknowledged := linkLaw_enterAcknowledge law w started down
  simp only [countWord]
  repeat' split
  · exact acknowledged
  · exact linkLaw_setLink_down law started down down ⟨rfl, rfl, rfl, rfl⟩ rfl
  · exact acknowledged
  · exact linkLaw_setLink_down law started down down ⟨rfl, rfl, rfl, rfl⟩ rfl

end

/-- The unit of a link that is dropped from UP. -/
def droppedUnit (u : LinkUnit) : LinkUnit :=
  { u with state := .silent, acceptedWord := none, recordLevel := none, records := [], replies := [], heldBack := [],
           renegotiateDue := false }

theorem unitOk_dropped {l : Link} {out : Bool} (u : LinkUnit) (free : l = .accessory → out = false) :
    UnitOk l out (droppedUnit u) :=
  unitOk_of_down nofun ⟨rfl, rfl, rfl, rfl⟩ free fun _ => rfl

/-- No READ STORE is outstanding once those waiting are gone and the one being read is dropped. -/
theorem outstanding_dropped {x : Store} {s : State} (dropped : s.store =
    { x with readStoreWaiting := [], port := dropReadStore x.port }) : readStoreOutstanding s = false := by
  refine outstanding_eq_false_iff.2 ⟨by rw [dropped], fun r t read => ?_⟩
  rw [dropped] at read
  simp only [dropReadStore] at read
  split at read
  · cases read
  · next other => exact other r false t read

/-- A link that is dropped from UP holds nothing. -/
theorem linkLaw_dropUp (l : Link) {s : State} (law : LinkLaw s) : LinkLaw (dropUp l s) := by
  have dropped : LinkLaw (dropReinitReply l s) :=
    linkLaw_of_kept law (by simp) (by simp) (by simp) (by
      unfold dropReinitReply
      split <;> rfl)
  simp only [dropUp]
  refine linkLaw_raiseOn _ _ ?_
  cases l with
  | body =>
    exact linkLaw_setLink (l := .body) dropped
      (unitOk_dropped ((dropReinitReply .body s).link .body) nofun) fun _ => rfl
  | accessory =>
    refine (linkLaw_iff _).2 ⟨fun k => ?_, ⟨Nat.zero_le 1, fun _ _ _ => rfl⟩, fun early k => ?_⟩
    · rw [outstanding_dropped (x := (dropReinitReply .accessory s).store) rfl]
      cases k with
      | body => exact unitOk_body (dropped.unit .body) false
      | accessory => exact unitOk_dropped ((dropReinitReply .accessory s).link .accessory) fun _ => rfl
    · cases k with
      | body => exact dropped.silent early .body
      | accessory => rfl

@[simp] theorem started_reevaluate (s : State) : (reevaluate s).started = s.started := by simp [State.started]

@[simp] theorem started_setHolder (h : Option Link) (c : Bool) (n : Nat) (s : State) :
    (setHolder h c n s).started = s.started := by simp [State.started]

@[simp] theorem started_enterDetect (l : Link) (n : Nat) (w : Option MasterWord) (s : State) :
    (enterDetect l n w s).started = s.started := by simp [State.started]

@[simp] theorem started_dropUp (l : Link) (s : State) : (dropUp l s).started = s.started := by
  have phase : (dropReinitReply l s).seq.phase = s.seq.phase := by
    unfold dropReinitReply
    split <;> rfl
  cases l <;> simp [dropUp, State.started, phase]

theorem linkLaw_setHolder (h : Option Link) (c : Bool) (n : Nat) {s : State} (law : LinkLaw s) :
    LinkLaw (setHolder h c n s) := linkLaw_of_kept law (by simp) (by simp) (by simp) (by simp [State.started])

theorem linkLaw_equalSeedRestart (n : Nat) {s : State} (law : LinkLaw s) (started : s.started = true) :
    LinkLaw (equalSeedRestart n s) := by
  have down := linkLaw_reevaluate (linkLaw_setHolder none false n
      (linkLaw_dropUp .accessory (linkLaw_dropUp .body law)))
  have goes : (reevaluate (setHolder none false n (dropUp .accessory (dropUp .body s)))).started = true := by
    simp [started]
  have state (l : Link) : ((reevaluate (setHolder none false n
      (dropUp .accessory (dropUp .body s)))).link l).state ≠ .up := by
    rw [link_reevaluate, link_setHolder, state_dropUp, state_dropUp]
    cases l <;> nofun
  unfold equalSeedRestart
  refine linkLaw_enterDetect (linkLaw_enterDetect down 0 none goes (state .body)) 0 none ?_ ?_
  · rw [started_enterDetect, goes]
  · rw [state_enterDetect_any]
    exact state .accessory

theorem linkLaw_resolveAuthority {s : State} (law : LinkLaw s) : LinkLaw (resolveAuthority s) := by
  simp only [resolveAuthority]
  split
  case h_3 outcome =>
    split
    case isTrue =>
      have up := up_of_isSome_upWord (isSome_of_resolution_equalSeeds outcome).1
      exact linkLaw_equalSeedRestart _ law (law.started (l := .body) (by rw [up]; nofun))
    case isFalse => exact linkLaw_setHolder _ _ _ law
  all_goals exact linkLaw_setHolder _ _ _ law

theorem linkLaw_leaveUp (l : Link) {s : State} (law : LinkLaw s) : LinkLaw (leaveUp l s) :=
  linkLaw_reevaluate (linkLaw_resolveAuthority (linkLaw_dropUp l law))

@[simp] theorem started_equalSeedRestart (n : Nat) (s : State) : (equalSeedRestart n s).started = s.started := by
  simp [equalSeedRestart]

@[simp] theorem started_resolveAuthority (s : State) : (resolveAuthority s).started = s.started := by
  simp only [resolveAuthority]
  repeat' split
  all_goals simp

theorem started_leaveUp (l : Link) (s : State) : (leaveUp l s).started = s.started := by
  simp [leaveUp]

theorem linkLaw_startReports {s : State} (law : LinkLaw s) : LinkLaw (startReports s) :=
  linkLaw_of_kept law (by simp) (by simp) (by simp) (by simp [State.started])

/-- A link comes UP with its accepted word and a fresh timeout, the body link with its record level. -/
theorem linkLaw_enterUp {l : Link} {s : State} (law : LinkLaw s) (state : (s.link l).state = .acknowledge)
    (word : (s.link l).acceptedWord.isSome = true) : LinkLaw (enterUp l s) := by
  obtain ⟨count, held, -, -, -⟩ := law.unit l
  have started := law.started (l := l) (by rw [state]; nofun)
  have up : UnitOk l (readStoreOutstanding s) { s.link l with
      state := .up, sendDue := none, abilityWaiting := false, timeout := some (addInterval s.now 250000),
      recordLevel := fixedLevel l (s.link l) } :=
    ⟨count, held, fun down => absurd rfl down, fun _ => ⟨rfl, rfl, word, rfl⟩, by rintro rfl; exact iff_of_true rfl rfl⟩
  have resolved : LinkLaw (resolveAuthority (raiseOn (otherLink l) .peerLinkChanged (s.setLink l _))) :=
    linkLaw_resolveAuthority (linkLaw_raiseOn _ _ (linkLaw_setLink law up fun early => by
      rw [started] at early
      cases early))
  simp only [enterUp]
  cases l with
  | body => exact linkLaw_reevaluate resolved
  | accessory => exact linkLaw_startReports resolved

theorem linkLaw_settleWord {l : Link} (w : MasterWord) {s : State} (law : LinkLaw s)
    (state : (s.link l).state = .acknowledge) : LinkLaw (settleWord l w s) := by
  simp only [settleWord]
  split
  case isTrue same =>
    split
    · refine linkLaw_enterUp law state ?_
      cases word : (s.link l).acceptedWord with
      | none => simp [word] at same
      | some v => rfl
    · exact linkLaw_setLink_still law (unitOk_timeout (law.unit l) _) rfl
  case isFalse => exact linkLaw_enterDetect law _ _ (law.started (l := l) (by simp [state])) (by simp [state])

theorem linkLaw_receiveWord (l : Link) (w : MasterWord) {s : State} (law : LinkLaw s) (started : s.started = true) :
    LinkLaw (receiveWord l w s) := by
  unfold receiveWord
  split
  case h_1 state => exact linkLaw_enterDetect law _ _ started (by simp [state])
  case h_2 state => exact linkLaw_countWord law w started (by simp [state])
  case h_3 state => exact linkLaw_settleWord w law state
  case h_4 =>
    exact linkLaw_enterDetect (linkLaw_leaveUp l law) _ _ ((started_leaveUp l s).trans started)
      fun up => (up_of_leaveUp up).1 rfl

end Sys2Proof.Machine
end

section
/-! PROOF. Every step keeps the law of the links. -/

namespace Sys2Proof.Machine

/-! ### Requests taken -/

theorem replyCount_received (l k : Link) (t : Instant) (s : State) :
    replyCount k (received l t s) = replyCount k s := by
  cases l <;> cases k <;> rfl

section
variable {l : Link} {s : State} (law : LinkLaw s) (serves : Serves l s)
include law serves

/-- A request that is served leaves the law holding whatever reply it has joined. -/
theorem linkLaw_joinReply_received (t : Instant) (k : Byte) (p : List Byte) :
    LinkLaw (joinReply l k p (received l t s)) := by
  refine linkLaw_joinReply k p (linkLaw_received l t law) ?_ ?_
  · rw [state_received]
    exact serves.up
  · rw [replyCount_received]
    exact serves.room

/-- The same after a change that the law does not see. -/
theorem linkLaw_joinReply_of_kept {u : State} (t : Instant) (k : Byte) (p : List Byte)
    (links : u.links = (received l t s).links)
    (waiting : u.store.readStoreWaiting = s.store.readStoreWaiting) (port : u.store.port = s.store.port)
    (started : u.started = s.started) : LinkLaw (joinReply l k p u) := by
  have kept := linkLaw_of_kept (linkLaw_received l t law) links waiting port started
  have out : readStoreOutstanding u = readStoreOutstanding s := by
    unfold readStoreOutstanding
    rw [waiting, port]
  refine linkLaw_joinReply k p kept ?_ ?_
  · rw [link_of_links links, state_received]
    exact serves.up
  · have count : replyCount l u = replyCount l (received l t s) := by
      unfold replyCount
      rw [link_of_links links, out]
      rfl
    rw [count, replyCount_received]
    exact serves.room

theorem linkLaw_refuse (t : Instant) (k : Byte) (c : Code) : LinkLaw (refuse l k c (received l t s)) := by
  unfold refuse
  split
  case isTrue reads =>
    obtain ⟨-, accessory, out⟩ := reads
    have law := linkLaw_received l t law
    obtain ⟨-, -, down, up, level⟩ := law.unit l
    have room := serves.room
    rw [← replyCount_received l l t] at room
    refine linkLaw_setLink_still law ⟨?_, fun _ => ⟨accessory, out⟩, down, up, level⟩ rfl
    unfold replyCount at room
    dsimp only
    rw [List.length_append, List.length_singleton]
    omega
  case isFalse => exact linkLaw_joinReply_received law serves t k _

end

theorem linkLaw_queueRead (t : Instant) (p : List Byte) {s : State} (law : LinkLaw s) (serves : Serves .accessory s)
    (answered : readStoreOutstanding s = false) : LinkLaw (queueRead p (received .accessory t s)) := by
  obtain ⟨none, port⟩ := outstanding_eq_false_iff.1 answered
  have law := linkLaw_received .accessory t law
  have answered : readStoreOutstanding (received .accessory t s) = false := answered
  have room := serves.room
  rw [← replyCount_received .accessory .accessory t] at room
  have state := state_received .accessory .accessory t s
  have out : readStoreOutstanding (queueRead p (received .accessory t s)) = true :=
    outstanding_of_waiting (by simp [queueRead])
  refine (linkLaw_iff _).2 ⟨fun l => ?_, ⟨by simp [queueRead, none], fun r t read => absurd read (port r t)⟩,
    law.silent⟩
  rw [out]
  cases l with
  | body => exact unitOk_body (law.unit .body) true
  | accessory =>
    obtain ⟨-, -, down, up, level⟩ := law.unit .accessory
    refine ⟨?_, fun _ => ⟨rfl, rfl⟩, fun dropped => absurd (state.trans serves.up) dropped, up, level⟩
    simp only [replyCount, answered, Bool.false_eq_true, and_false, if_false] at room
    simp only [and_self, if_true]
    exact Nat.add_le_add_right room 1

theorem linkLaw_rejectWord (l : Link) {s : State} (law : LinkLaw s) : LinkLaw (rejectWord l s) := by
  unfold rejectWord
  refine linkLaw_raiseOn _ _ ?_
  split
  · exact linkLaw_setLink_still law (unitOk_timeout (law.unit l) _) rfl
  · exact law

theorem linkLaw_afterTransmit (l : Link) (f : TxFrame) {s : State} (law : LinkLaw s) :
    LinkLaw (afterTransmit l f s) := by
  unfold afterTransmit
  split
  case isTrue => exact law
  case isFalse =>
    split
    case isTrue renegotiates =>
      obtain ⟨count, held, -, up, level⟩ := law.unit l
      exact linkLaw_setLink_still law ⟨count, held, fun down => absurd renegotiates.2 down, up, level⟩ rfl
    case isFalse => exact linkLaw_startTransmit l law

/-- A read that ends and is not an unanswered READ STORE leaves what is outstanding as it was. -/
theorem linkLaw_endRead (since : Instant) (n : Nat) {s : State} (law : LinkLaw s)
    (other : ∀ r t, s.store.port ≠ some ⟨.readStore r false, t⟩) : LinkLaw (endRead since n s) := by
  have law := linkLaw_advanceTo (addInterval since n) law
  obtain ⟨waits, -⟩ := law.reads
  refine linkLaw_of_same law rfl ?_ ⟨waits, nofun⟩ rfl
  have waiting : (endRead since n s).store.readStoreWaiting = s.store.readStoreWaiting := rfl
  cases out : readStoreOutstanding (advanceTo (addInterval since n) s) with
  | false => exact outstanding_eq_false_iff.2 ⟨(outstanding_eq_false_iff.1 out).1, nofun⟩
  | true =>
    refine outstanding_of_waiting fun none => ?_
    have quiet : readStoreOutstanding s = false := outstanding_eq_false_iff.2 ⟨none, other⟩
    cases quiet.symm.trans out

theorem linkLaw_of_quiet {s u : State} (law : LinkLaw s) (change : Quiet s u) : LinkLaw u := by
  cases change with
  | nothing => exact law
  | timePasses t => exact linkLaw_advanceTo t law
  | frameEnds l t => exact linkLaw_frameEnds l t law
  | frameGoesOn l t bytes => exact linkLaw_setLink_still (linkLaw_advanceTo t law) (unitOk_parser (law.unit l) _) rfl
  | frameAbandoned l t => exact linkLaw_raiseOn _ _ (linkLaw_frameEnds l t law)
  | requestDiscarded l t => exact linkLaw_received l t law
  | replyListFull l t => exact linkLaw_raiseOn _ _ (linkLaw_received l t law)
  | refused l t k c serves => exact linkLaw_refuse law serves t k c
  | answered l t k p serves => exact linkLaw_joinReply_received law serves t k p
  | statusAnswered l t p n serves => exact linkLaw_joinReply_of_kept law serves t _ _ rfl rfl rfl rfl
  | eventsModified l t mask serves | enablesSet l t word serves =>
    exact linkLaw_joinReply_of_kept law serves t _ _ rfl rfl rfl rfl
  | reinitializeTaken l t serves => exact linkLaw_joinReply_of_kept law serves t _ _ rfl rfl rfl rfl
  | operationTaken l t x n serves =>
    refine linkLaw_startOp _ _ _ (linkLaw_received l t law) ?_ ?_
    · rw [state_received]
      exact serves.up
    · rw [replyCount_received]
      exact serves.room
  | readStoreTaken t p serves answered => exact linkLaw_queueRead t p law serves answered
  | wordRejected l t => exact linkLaw_rejectWord l (linkLaw_frameEnds l t law)
  | wordReceived l t w started => exact linkLaw_receiveWord l w (linkLaw_frameEnds l t law) started
  | abilityDue l due next running =>
    refine linkLaw_abilitySend next (linkLaw_advanceTo due law) fun up => ?_
    obtain ⟨-, -, -, ups, -⟩ := law.unit l
    rw [(ups up).2.1] at running
    cases running
  | detectEnds l due state =>
    have started := law.started (l := l) (by rw [state]; nofun)
    have down : (s.link l).state ≠ .up := by rw [state]; nofun
    have counted : LinkLaw ((advanceTo due s).setLink l
        { (advanceTo due s).link l with matchCount := 0, previousWord := none }) :=
      linkLaw_setLink_down (linkLaw_advanceTo due law) started down down ⟨rfl, rfl, rfl, rfl⟩ rfl
    exact linkLaw_enterSilent counted started (by rw [link_setLink_same]; exact down)
  | acknowledgeEnds l due state =>
    have started := law.started (l := l) (by rw [state]; nofun)
    have down : (s.link l).state ≠ .up := by rw [state]; nofun
    have forgotten : LinkLaw ((advanceTo due s).setLink l { (advanceTo due s).link l with acceptedWord := none }) :=
      linkLaw_setLink_down (linkLaw_advanceTo due law) started down down ⟨rfl, rfl, rfl, rfl⟩ rfl
    exact linkLaw_enterSilent forgotten started (by rw [link_setLink_same]; exact down)
  | upEnds l due up =>
    have started := law.started (l := l) (by rw [up]; nofun)
    exact linkLaw_enterSilent (linkLaw_leaveUp l (linkLaw_advanceTo due law)) ((started_leaveUp l _).trans started)
      fun up => (up_of_leaveUp up).1 rfl
  | frameSent l t f =>
    have sent : LinkLaw ((advanceTo t s).setLink l { (advanceTo t s).link l with sending := none }) :=
      linkLaw_setLink_still (linkLaw_advanceTo t law) (unitOk_sending (law.unit l) none) rfl
    exact linkLaw_afterTransmit l f sent
  | reportDue due up =>
    refine linkLaw_handRecord _ (linkLaw_of_kept (linkLaw_advanceTo due law) rfl rfl rfl rfl) ?_
    exact up
  | renegotiated l due =>
    have up : (s.link l).state = .up := by
      by_contra down
      obtain ⟨-, -, downs, -⟩ := law.unit l
      obtain ⟨-, -, none, -⟩ := downs down
      rw [due] at none
      cases none
    have started := law.started (l := l) (by rw [up]; nofun)
    exact linkLaw_enterDetect (linkLaw_leaveUp l law) _ _ ((started_leaveUp l s).trans started)
      fun up => (up_of_leaveUp up).1 rfl
  | droppedReadEnds r since port =>
    refine linkLaw_endRead since 40 law fun r t read => ?_
    rw [port] at read
    cases read
  | readStoreEnds r since p port =>
    refine linkLaw_answered p law (outstanding_of_port port) rfl ?_ rfl
    exact outstanding_eq_false_iff.2 ⟨law.reads.2 r since port, nofun⟩

/-! ### The cache, the store and start-up -/

/-- Dropping a read of the lock walk leaves the reads of READ STORE as they are. -/
theorem dropWalkRead_eq_readStore_iff {port : Option PortRead} {r : ReadRequest} {t : Instant} :
    dropWalkRead port = some ⟨.readStore r false, t⟩ ↔ port = some ⟨.readStore r false, t⟩ := by
  unfold dropWalkRead
  split
  · exact ⟨nofun, nofun⟩
  · rfl

/-- What the law reads of the store: the waiting reads, and which read of READ STORE is unanswered. -/
def SameReads (x y : Store) : Prop := x.readStoreWaiting = y.readStoreWaiting ∧
  ∀ r t, x.port = some ⟨.readStore r false, t⟩ ↔ y.port = some ⟨.readStore r false, t⟩

theorem outstanding_of_sameReads {s u : State} (reads : SameReads u.store s.store) :
    readStoreOutstanding u = readStoreOutstanding s := by
  obtain ⟨waiting, port⟩ := reads
  rw [Bool.eq_iff_iff, ← not_iff_not, Bool.not_eq_true, Bool.not_eq_true, outstanding_eq_false_iff,
    outstanding_eq_false_iff, waiting]
  simp only [ne_eq, port]

theorem linkLaw_of_reads {s u : State} (law : LinkLaw s) (links : u.links = s.links) (reads : SameReads u.store s.store)
    (started : u.started = s.started) : LinkLaw u := by
  refine linkLaw_of_same law links (outstanding_of_sameReads reads) ?_ started
  obtain ⟨waits, port⟩ := law.reads
  obtain ⟨waiting, same⟩ := reads
  unfold ReadsOk
  simp only [waiting, same]
  exact ⟨waits, port⟩

theorem sameReads_of_eq {x y : Store} (waiting : x.readStoreWaiting = y.readStoreWaiting) (port : x.port = y.port) :
    SameReads x y := ⟨waiting, fun _ _ => by rw [port]⟩

theorem sameReads_dropWalkRead (x : Store) : SameReads { x with port := dropWalkRead x.port } x :=
  ⟨rfl, fun _ _ => dropWalkRead_eq_readStore_iff⟩

theorem linkLaw_invalidateKind (kind : TableKind) {s : State} (law : LinkLaw s) : LinkLaw (invalidateKind kind s) := by
  simp only [invalidateKind]
  split
  · exact linkLaw_of_reads law rfl (sameReads_dropWalkRead s.store) rfl
  · exact law

theorem linkLaw_withdrawKind (kind : TableKind) (n : BitVec 3) {s : State} (law : LinkLaw s) :
    LinkLaw (withdrawKind kind n s) := by
  unfold withdrawKind
  split
  · split
    · refine linkLaw_invalidateKind kind ?_
      cases kind <;> exact linkLaw_of_kept law rfl rfl rfl rfl
    · exact law
  · exact law

theorem linkLaw_beginOnSector (n : BitVec 3) {s : State} (law : LinkLaw s) : LinkLaw (beginOnSector n s) := by
  have withdrawn : LinkLaw (withdrawKind .shading n (withdrawKind .breathing n
      (s.setStore { s.store with verdicts := s.store.verdicts.set n.toNat .unscanned }))) :=
    linkLaw_withdrawKind _ _ (linkLaw_withdrawKind _ _ (linkLaw_of_kept law rfl rfl rfl rfl))
  simp only [beginOnSector]
  split
  · refine linkLaw_reevaluate ?_
    exact linkLaw_of_kept withdrawn rfl rfl rfl rfl
  · exact withdrawn

theorem linkLaw_scanKind (kind : TableKind) {s : State} (law : LinkLaw s) : LinkLaw (scanKind kind s) := by
  have chosen (t : Option ActiveTable) : LinkLaw (s.setStore (s.store.setActive kind t)) := by
    cases kind <;> exact linkLaw_of_kept law rfl rfl rfl rfl
  simp only [scanKind]
  split
  · exact linkLaw_invalidateKind kind (chosen _)
  · exact chosen _

theorem linkLaw_scanResults {s : State} (law : LinkLaw s) : LinkLaw (scanResults s) := by
  unfold scanResults
  refine linkLaw_scanKind _ (linkLaw_scanKind _ ?_)
  unfold scanSector0
  dsimp only
  split <;> exact linkLaw_of_kept law rfl rfl rfl rfl

theorem linkLaw_completeOp (o : StoreOp) (x : OpResult) {s : State} (law : LinkLaw s) : LinkLaw (completeOp o x s) :=
  linkLaw_of_kept law (by simp) (by simp [completeOp]) (by simp [completeOp]) (by simp [State.started])

/-- A phase entered before start-up ends finds both links SILENT. -/
theorem linkLaw_setPhase {x : Phase} {s : State} (law : LinkLaw s) (early : s.started = false) :
    LinkLaw (setPhase x s) := by
  obtain ⟨units, reads, silent⟩ := (linkLaw_iff s).1 law
  exact (linkLaw_iff _).2 ⟨units, reads, fun _ => silent early⟩

/-- The end of start-up lets both links send, from SILENT. -/
theorem linkLaw_endStartup {s : State} (law : LinkLaw s) (early : s.started = false) : LinkLaw (endStartup s) := by
  have down (l : Link) : (s.link l).state ≠ .up := by
    rw [law.silent early l]
    nofun
  have finished := linkLaw_setPhase (x := .finished) law early
  have settled := linkLaw_reevaluate (show LinkLaw (anchored s) from finished)
  have state (l : Link) : ((reevaluate (anchored s)).link l).state ≠ .up := by
    rw [link_reevaluate]
    exact down l
  unfold endStartup
  refine linkLaw_abilitySend _ (linkLaw_abilitySend _ ?_ ?_) ?_
  · exact settled
  · exact state .body
  · rw [state_abilitySend]
    exact state .accessory

theorem linkLaw_walkAdvance {s : State} (law : LinkLaw s) : LinkLaw (walkAdvance s) :=
  linkLaw_of_kept law (by simp) (by simp) (by simp) (by simp [State.started])

theorem markChanged_reads (n : Nat) (s : State) : (markChanged n s).2.links = s.links ∧
    SameReads (markChanged n s).2.store s.store ∧ (markChanged n s).2.started = s.started := by
  rcases markChanged_snd n s with same | released
  · rw [same]
    exact ⟨rfl, sameReads_of_eq rfl rfl, rfl⟩
  · rw [released]
    exact ⟨rfl, sameReads_dropWalkRead s.store, rfl⟩

/-- A reply to a request that is served, after a change of the store that leaves its reads alone. -/
theorem linkLaw_joinReply_of_reads {l : Link} {s u : State} (law : LinkLaw s) (serves : Serves l s) (t : Instant)
    (k : Byte) (p : List Byte) (links : u.links = (received l t s).links) (reads : SameReads u.store s.store)
    (started : u.started = s.started) : LinkLaw (joinReply l k p u) := by
  have kept := linkLaw_of_reads (linkLaw_received l t law) links reads started
  refine linkLaw_joinReply k p kept ?_ ?_
  · rw [link_of_links links, state_received]
    exact serves.up
  · have count : replyCount l u = replyCount l (received l t s) := by
      unfold replyCount
      rw [link_of_links links, outstanding_of_sameReads reads]
      rfl
    rw [count, replyCount_received]
    exact serves.room

/-- The reply to a mark set or deleted joins after the path has been released or left (R99). -/
theorem linkLaw_joinReply_markChanged {l : Link} {s u : State} (law : LinkLaw s) (serves : Serves l s) (t : Instant)
    (k : Byte) (p : List Byte) (n : Nat) (links : u.links = (received l t s).links) (store : u.store = s.store)
    (started : u.started = s.started) : LinkLaw (joinReply l k p (markChanged n u).2) := by
  obtain ⟨links', reads, started'⟩ := markChanged_reads n u
  rw [store] at reads
  exact linkLaw_joinReply_of_reads law serves t k p (links'.trans links) reads (started'.trans started)

/-- A read of READ STORE that begins is the one that waited. -/
theorem linkLaw_startSource {x : PortSource} {s : State} (law : LinkLaw s) (next : nextSource s = some x)
    (free : s.store.port = none) : LinkLaw (startSource x s) := by
  have fills (c : Cache) (j : PortJob) (other : ∀ r, j ≠ .readStore r false) : LinkLaw (setPort j (s.setCache c)) := by
    refine linkLaw_of_reads law rfl ⟨rfl, fun r t => iff_of_false (fun read => ?_) (by simp [free])⟩ rfl
    cases read
    exact other r rfl
  unfold startSource
  cases x with
  | demand k | prefetch k =>
    dsimp only
    split
    · exact fills _ _ nofun
    · exact law
  | walk k =>
    dsimp only
    split
    · exact fills s.cache _ nofun
    · exact law
  | readStore r =>
    obtain ⟨waits, -⟩ := law.reads
    have waiting : s.store.readStoreWaiting ≠ [] := by
      intro none
      unfold nextSource at next
      split at next <;> simp_all
    refine linkLaw_of_same law rfl ?_ ⟨?_, fun _ _ _ => ?_⟩ rfl
    · rw [outstanding_of_waiting waiting]
      exact outstanding_of_port (r := r) (t := s.now) rfl
    · change (s.store.readStoreWaiting.drop 1).length ≤ 1
      rw [List.length_drop]
      omega
    · change s.store.readStoreWaiting.drop 1 = []
      exact List.drop_eq_nil_of_le waits

theorem linkLaw_finishWalkRead {k : Key} {cell : Cell} {g : Nat} {dropped : Bool} {s : State} (law : LinkLaw s) :
    LinkLaw (finishWalkRead k cell g dropped s) := by
  simp only [finishWalkRead]
  split
  · exact law
  · refine linkLaw_walkAdvance ?_
    exact linkLaw_of_kept law rfl rfl rfl rfl

theorem linkLaw_beginWork (o : StoreOp) {s : State} (law : LinkLaw s) : LinkLaw (beginWork o s) := by
  have begun : LinkLaw (s.setStore { s.store with op := some { o with working := some s.now } }) :=
    linkLaw_of_kept law rfl rfl rfl rfl
  simp only [beginWork]
  split
  · exact linkLaw_beginOnSector _ begun
  · exact begun

theorem linkLaw_finishClearSector (o : StoreOp) (n : BitVec 3) {s : State} (law : LinkLaw s) :
    LinkLaw (finishClearSector o n s) := by
  simp only [finishClearSector]
  split
  · exact linkLaw_completeOp _ _ (linkLaw_of_kept law rfl rfl rfl rfl)
  · exact linkLaw_beginOnSector _ (linkLaw_of_kept law rfl rfl rfl rfl)

theorem linkLaw_of_apart {s u : State} (law : LinkLaw s) (change : Apart s u) : LinkLaw u := by
  cases change with
  | anchorSet l t power serves => exact linkLaw_joinReply_of_kept law serves t _ _ rfl rfl rfl rfl
  | anchorTaken l t serves =>
    unfold anchorHere
    split
    · exact linkLaw_received l t law
    · exact linkLaw_joinReply_of_kept law serves t _ _ rfl rfl rfl rfl
  | markSet l t p serves => exact linkLaw_joinReply_markChanged law serves t _ _ _ rfl rfl rfl
  | markDeleted l t id serves =>
    unfold deleteMark
    split
    · exact linkLaw_joinReply_received law serves t _ _
    · exact linkLaw_joinReply_markChanged law serves t _ _ _ rfl rfl rfl
  | pathLocked l t start stop serves =>
    refine linkLaw_walkAdvance (linkLaw_joinReply_of_reads law serves t _ _ ?_ ?_ ?_)
    · rfl
    · exact sameReads_dropWalkRead s.store
    · rfl
  | pathUnlocked l t serves =>
    refine linkLaw_joinReply_of_reads law serves t _ _ ?_ ?_ ?_
    · rfl
    · dsimp only
      split
      · exact sameReads_dropWalkRead s.store
      · exact sameReads_of_eq rfl rfl
    · rfl
  | pageLoaded l t p serves => exact linkLaw_joinReply_of_kept law serves t _ _ rfl rfl rfl rfl
  | programTaken l t n page serves | eraseTaken l t n serves =>
    refine linkLaw_beginOnSector _ (linkLaw_startOp _ _ _ (linkLaw_received l t law) ?_ ?_)
    · rw [state_received]
      exact serves.up
    · rw [replyCount_received]
      exact serves.room
  | ramChecked since t attempt bits disabled tests phase =>
    refine linkLaw_setPhase ?_ (started_of_phase phase nofun)
    exact linkLaw_of_kept law rfl rfl rfl rfl
  | attemptBegins attempt next tests tests' phase =>
    exact linkLaw_setPhase (linkLaw_advanceTo next law) (started_of_phase phase nofun)
  | attemptEnds attempt t tests tests' phase =>
    have early : (advanceTo t s).started = false := started_of_phase phase nofun
    unfold afterEncoderRead
    split
    · exact linkLaw_setPhase (linkLaw_advanceTo t law) early
    · refine linkLaw_setPhase ?_ early
      exact linkLaw_of_kept (linkLaw_advanceTo t law) rfl rfl rfl rfl
  | markerRead reinit since t phase =>
    refine linkLaw_setPhase ?_ (started_of_phase phase nofun)
    exact linkLaw_of_kept (linkLaw_advanceTo t law) rfl rfl rfl rfl
  | startScanEnds since t reinit phase =>
    have scanned := linkLaw_scanResults (linkLaw_advanceTo t law)
    have early : (scanResults (advanceTo t s)).started = false :=
      started_of_phase (x := .scan reinit since) (by simpa using phase) nofun
    split
    · exact linkLaw_endStartup scanned early
    · refine linkLaw_endStartup (linkLaw_of_kept scanned ?_ ?_ ?_ ?_) ?_
      · simp
      · simp
      · simp
      · simp [State.started, failBits]
      · simpa [State.started, failBits] using early
  | rescanEnds o t => exact linkLaw_completeOp _ _ (linkLaw_scanResults (linkLaw_advanceTo t law))
  | portReads x next free =>
    refine linkLaw_startSource law next ?_
    unfold portFree at free
    simp only [Bool.and_eq_true, Option.isNone_iff_eq_none] at free
    obtain ⟨⟨-, port⟩, -⟩ := free
    exact port
  | walkReadEnds k cell g dropped since port =>
    exact linkLaw_finishWalkRead (linkLaw_endRead since 24 law fun r t read => by rw [port] at read; cases read)
  | workBegins o => exact linkLaw_beginWork o law
  | eraseEnds o n t | programEnds o n p t =>
    exact linkLaw_completeOp _ _ (linkLaw_of_kept (linkLaw_advanceTo t law) rfl rfl rfl rfl)
  | protectEnds o t =>
    unfold finishProtect
    refine linkLaw_completeOp _ _ (linkLaw_of_kept (linkLaw_advanceTo t law) ?_ ?_ ?_ ?_) <;> simp
  | clearSectorEnds o n t => exact linkLaw_finishClearSector o n (linkLaw_advanceTo t law)
  | samplingBegins t => exact linkLaw_of_kept law rfl rfl rfl rfl
  | sampleFiled a t x => exact linkLaw_of_kept law (by simp) (by simp) (by simp) (by simp [State.started])

/-! ### Every effect -/

/-- A record leaves while the engine runs, so the body link is UP. -/
theorem linkLaw_handOver (e : Entry) (d : Delivered) {rest : List Entry} {s : State} (engine : EngineLaw s)
    (law : LinkLaw s) (frames : s.timing.frames = e :: rest) : LinkLaw (handOver e d rest s) := by
  obtain ⟨-, conditions, -, -, quiet, -⟩ := engine
  have runs : s.engine.state.runs = true := by
    by_contra still
    have none := (quiet (Bool.eq_false_iff.2 still)).2
    rw [frames] at none
    cases none
  have body := (conditions runs).2
  have handed : LinkLaw (handRecord .body (recordFrame e d) (s.setTiming { s.timing with frames := rest })) :=
    linkLaw_handRecord _ (linkLaw_of_kept law rfl rfl rfl rfl) body
  refine linkLaw_raiseIf _ _ (linkLaw_raiseIf _ _ ?_)
  unfold sendFrameReport
  split
  case isTrue up => exact linkLaw_handRecord _ handed (by simpa [accessoryUp] using up)
  case isFalse => exact handed

theorem linkLaw_writeMode (l : Link) (t : Instant) (p : List Byte) {s : State} (law : LinkLaw s) (serves : Serves l s) :
    LinkLaw (writeMode l p (received l t s)) := by
  refine linkLaw_joinReply_of_kept law serves t _ _ ?_ ?_ ?_ ?_
  · split <;> simp
  · split <;> simp
  · split <;> simp
  · split
    · rfl
    · rw [started_reevaluate]
      rfl

theorem unitOk_reset (l : Link) (f : Option (TxFrame × Instant)) :
    UnitOk l false { LinkUnit.reset with sending := f } :=
  unitOk_of_down nofun ⟨rfl, rfl, rfl, rfl⟩ (fun _ => rfl) fun _ => rfl

theorem linkLaw_reset {s : State} (links : ∀ l, ∃ f, s.link l = { LinkUnit.reset with sending := f })
    (waiting : s.store.readStoreWaiting = []) (port : s.store.port = none) : LinkLaw s := by
  have out : readStoreOutstanding s = false := outstanding_eq_false_iff.2 ⟨waiting, by simp [port]⟩
  refine (linkLaw_iff s).2 ⟨fun l => ?_, ⟨by simp [waiting], by simp [port]⟩, fun _ l => ?_⟩
  · obtain ⟨f, unit⟩ := links l
    rw [out, unit]
    exact unitOk_reset l f
  · obtain ⟨f, unit⟩ := links l
    rw [unit]
    rfl

theorem linkLaw_of_effect (s u : State) (engine : EngineLaw s) (law : LinkLaw s) (effect : Effect s u) : LinkLaw u := by
  cases effect with
  | quiet change => exact linkLaw_of_quiet law change
  | apart change => exact linkLaw_of_apart law change
  | formatReplaced l t p serves | infoReplaced l t p serves =>
    exact linkLaw_joinReply_of_kept law serves t _ _ rfl rfl rfl rfl
  | modeWritten l t p serves => exact linkLaw_writeMode l t p law serves
  | reinitialized => exact linkLaw_reset (fun l => ⟨(s.link l).sending, by cases l <;> rfl⟩) rfl rfl
  | resetLeft => exact linkLaw_reset (fun l => ⟨none, by cases l <;> rfl⟩) rfl rfl
  | recordLeaves e d rest frames => exact linkLaw_handOver e d engine (linkLaw_advanceTo e.due law) frames
  | fillEnds k cell since port =>
    have ended := linkLaw_endRead since 24 law fun r t read => by rw [port] at read; cases read
    exact linkLaw_of_kept ended (by simp) (by simp) (by simp) (by simp [State.started])
  | _ => exact linkLaw_of_kept law (by simp) (by simp) (by simp) (by simp [State.started])

/-- Settles O18: replies join a list with a place, and a link that leaves UP is emptied; the engine's law has the body
link UP for every record. -/
theorem stepKeepsLinkLaw : Obligations.StepKeepsLinkLaw := by
  have both := step_keeps (P := fun s => EngineLaw s ∧ LinkLaw s) (fun _ _ laws => laws)
    (fun s laws => ⟨linked_engineLaw.tick laws.1,
    linkLaw_of_kept laws.2 (by simp) (by simp) (by simp) (by simp [State.started])⟩)
    (fun _ _ _ => ⟨engineLaw_reset rfl rfl, linkLaw_reset (fun l => ⟨none, by cases l <;> rfl⟩) rfl rfl⟩)
    fun s u laws effect => ⟨linked_engineLaw.settle (engineLaw_of_effect s u laws.1 effect),
      linkLaw_settle (linkLaw_of_effect s u laws.1 laws.2 effect)⟩
  exact fun s t engine links steps => (both s t ⟨engine, links⟩ steps).2

end Sys2Proof.Machine
end

section
/-! PROOF. The queue, time and reset (log 1, log 3). -/

namespace Sys2Proof.Machine

/-- Settles O1: a step is the execution of the front command. -/
theorem stepRunsFrontCommand : Obligations.StepRunsFrontCommand := fun _ _ _ => rfl

/-- Settles O2: an empty queue makes a step a tick. -/
theorem idleStepPassesOneMicrosecond : Obligations.IdleStepPassesOneMicrosecond := by
  intro s empty
  have ticks : step s = .next (tick s) := by simp only [step, empty]
  rw [ticks]
  rfl

/-! ### The queue through a command -/

theorem pending_of_quiet {s u : State} (change : Quiet s u) : u.pending = s.pending := by
  cases change with
  | nothing | readStoreTaken => rfl
  | _ => simp

theorem pending_of_apart {s u : State} (change : Apart s u) : u.pending = s.pending := by
  cases change with
  | startScanEnds => split <;> simp
  | _ => simp

theorem pending_of_effect {s u : State} (effect : Effect s u) : u.pending = s.pending := by
  cases effect with
  | quiet change => exact pending_of_quiet change
  | apart change => exact pending_of_apart change
  | reinitialized | resetLeft => rfl
  | _ => simp

/-- Settles O3: each command holds the part in reset, answers the state or answers an effect, and all leave the queue
alone. -/
theorem noCommandStops : Obligations.NoCommandStops := by
  intro c s
  rcases exec_answers c s with ⟨b, holds⟩ | same | ⟨u, effect, settles⟩
  · exact ⟨_, holds, rfl⟩
  · exact ⟨_, same, rfl⟩
  · exact ⟨_, settles, by simpa using pending_of_effect effect⟩

/-! ### The state after reset -/

/-- Settles O4, block by block. -/
theorem resetValues : Obligations.ResetValues := by
  refine ⟨rfl, ⟨rfl, rfl, rfl, rfl, rfl⟩, rfl,
    ⟨fun _ => rfl, rfl, rfl, rfl, rfl, rfl, rfl, rfl, rfl, rfl, rfl, rfl, rfl⟩,
    ⟨rfl, fun ways mem => List.eq_of_mem_replicate mem, rfl, rfl, rfl, rfl⟩, rfl, fun l => ?_, rfl, rfl, rfl, rfl⟩
  cases l <;> rfl

/-- Settles O5: the laws of the reset blocks, most of them the ones that every reset establishes. -/
theorem lawsHoldAtReset : Obligations.LawsHoldAtReset := by
  refine ⟨storeLaw_reset false rfl rfl (List.length_replicate), rfl, engineLaw_reset rfl rfl, authorityLaw_reset rfl,
    ?_, ?_, ?_, frameLaw_reset rfl, ?_,
    axisLaw_reset unsampledStraps rfl rfl, settingsLaw_reset rfl rfl, cacheLaw_reset false rfl rfl,
    linkLaw_reset (fun l => ⟨none, by cases l <;> rfl⟩) rfl rfl⟩
  · exact ⟨.nil, .nil, nofun⟩
  · exact ⟨Nat.zero_le _, nofun, nofun, nofun⟩
  · exact ⟨Nat.zero_le _, Nat.zero_le _, .nil⟩
  · exact ⟨fun _ => rfl, nofun, fun out => absurd rfl out⟩

end Sys2Proof.Machine
end

section
/-! PROOF. The event unit (11.4): what raising and settling do to its words, and how raised bits add up. -/

namespace Sys2Proof.Machine

/-! ### Bits raised between two states -/

/-- Bits latched into both links' words, and nothing else of the event unit changed. -/
def latched (body accessory : EventWord) (w : PerLink EventUnit) : PerLink EventUnit :=
  ⟨{ w.body with pending := w.body.pending ||| body },
    { w.accessory with pending := w.accessory.pending ||| accessory }⟩

/-- From `s` to `u`, before the events settle, these bits have been raised and nothing else. -/
def Latches (body accessory : EventWord) (s u : State) : Prop := u.events = s.events.map (latched body accessory)

theorem latched_zero (w : PerLink EventUnit) : latched 0 0 w = w := by simp [latched]

theorem latches_of_same {s u : State} (same : u.events = s.events) : Latches 0 0 s u := by
  unfold Latches
  rw [same, funext latched_zero, Option.map_id']

theorem Latches.trans {b a b' a' : EventWord} {s u v : State} (first : Latches b a s u) (second : Latches b' a' u v) :
    Latches (b ||| b') (a ||| a') s v := by
  unfold Latches at *
  rw [second, first, Option.map_map]
  congr 1
  funext w
  simp [latched, Function.comp, BitVec.or_assoc]

theorem Latches.same_after {b a : EventWord} {s u v : State} (first : Latches b a s u) (same : v.events = u.events) :
    Latches b a s v := Eq.trans same first

theorem Latches.same_before {b a : EventWord} {s u v : State} (second : Latches b a u v) (same : u.events = s.events) :
    Latches b a s v := by
  unfold Latches at *
  rw [second, same]

theorem latches_raise (e : Event) (s : State) : Latches e.mask e.mask s (raise e s) := events_raise e s

theorem latches_raiseIf (c : Bool) (e : Event) (s : State) : Latches (maskIf c e) (maskIf c e) s (raiseIf c e s) := by
  cases c with
  | true => exact latches_raise e s
  | false => exact latches_of_same rfl

theorem latches_raiseOn (l : Link) (e : Event) (s : State) :
    Latches (maskOn .body l e) (maskOn .accessory l e) s (raiseOn l e s) := by
  unfold Latches
  rw [events_raiseOn]
  congr 1
  funext w
  cases l <;> simp [latched, maskOn, PerLink.set, PerLink.get, EventUnit.latch]

/-- Bits raised before the end of a command are those that have been raised at its end. -/
theorem Latches.settle {b a : EventWord} {s u : State} (latches : Latches b a s u) : EventsRaised b a s (settle u) := by
  unfold EventsRaised
  unfold Latches at latches
  rw [events_settle, levelWord_settle, latches, Option.map_map]
  congr 1
  funext w
  simp [latched, settle_eq_raisedUnit, raisedUnit, Function.comp]

/-! ### Words -/

theorem enableWord_of_latches {b a : EventWord} {s u : State} (latches : Latches b a s u) (l : Link) :
    enableWord u l = enableWord s l := by
  unfold Latches at latches
  simp only [enableWord, latches]
  cases s.events with
  | none => rfl
  | some w => cases l <;> rfl

theorem pendingWord_of_latches {b a : EventWord} {s u : State} (latches : Latches b a s u) (l : Link)
    (some : s.events.isSome = true) :
    pendingWord u l = pendingWord s l ||| (match l with | .body => b | .accessory => a) := by
  unfold Latches at latches
  obtain ⟨w, words⟩ := Option.isSome_iff_exists.1 some
  simp only [pendingWord, latches, words]
  cases l <;> rfl

theorem pendingWord_settle {s : State} {w : PerLink EventUnit} (words : s.events = some w) (l : Link) :
    pendingWord (settle s) l = (w.get l).pending ||| levelWord s := by
  simp only [pendingWord, events_settle, words]
  cases l <;> rfl

theorem enableWord_settle {s : State} {w : PerLink EventUnit} (words : s.events = some w) (l : Link) :
    enableWord (settle s) l = (w.get l).enable := by
  simp only [enableWord, events_settle, words]
  cases l <;> rfl

/-! ### The level bits (R181) -/

theorem getLsbD_mask (e : Event) (n : Nat) : (Event.mask e).getLsbD n = decide (n = e.bit) := by
  have short : e.bit < 16 := by cases e <;> decide
  rw [Event.mask, BitVec.getLsbD_twoPow]
  by_cases same : n = e.bit
  · simp [same, short]
  · simp [same, Ne.symm same]

theorem getLsbD_maskOf (c : Bool) (e : Event) (n : Nat) :
    (if c then Event.mask e else 0).getLsbD n = (c && decide (n = e.bit)) := by
  cases c <;> simp [getLsbD_mask]

theorem axisLost_iff (s : State) : s.axisLost = true ↔ ∃ a, s.fitted a = true ∧ (s.front.axes.get a).state = .lost := by
  simp only [State.axisLost, Bool.or_eq_true, Bool.and_eq_true, decide_eq_true_eq]
  constructor
  · rintro ((lost | lost) | lost)
    exacts [⟨.focus, lost⟩, ⟨.zoom, lost⟩, ⟨.iris, lost⟩]
  · rintro ⟨a, lost⟩
    cases a with
    | focus => exact .inl (.inl lost)
    | zoom => exact .inl (.inr lost)
    | iris => exact .inr lost

/-- The four level bits follow their conditions. -/
theorem getLsbD_levelWord (s : State) (e : Event) :
    e = .axisLost ∨ e = .tableMissing ∨ e = .authorityConflict ∨ e = .selfTestFail →
    ((levelWord s).getLsbD e.bit = true ↔ (match e with
      | .axisLost => ∃ a, s.fitted a = true ∧ (s.front.axes.get a).state = .lost
      | .tableMissing => s.store.breathing = none ∨ s.store.shading = none
      | .authorityConflict => s.auth.conflict = true
      | _ => s.seq.failMask ≠ 0)) := by
  intro level
  simp only [levelWord, BitVec.getLsbD_or, getLsbD_maskOf]
  rcases level with rfl | rfl | rfl | rfl
  · rw [← axisLost_iff]
    simp [Event.bit]
  · simp [Event.bit, State.tableMissing]
  · simp [Event.bit]
  · simp [Event.bit, State.selfTestFailed]

/-! ### The attention lines (R184) -/

/-- A settled line is at its active level exactly when its words share a set bit. -/
theorem attentionLevel_settle {s : State} {w : PerLink EventUnit} (words : s.events = some w) (l : Link) :
    attentionLevel (settle s) l = some (!(match l with
        | .body => s.seq.straps.bodyAttention
        | .accessory => s.seq.straps.accessoryAttention)) ↔
      pendingWord (settle s) l &&& enableWord (settle s) l ≠ 0 := by
  have attention : (settle s).events.map (fun v => (v.get l).attention) =
      some (pendingWord (settle s) l &&& enableWord (settle s) l != 0) := by
    rw [pendingWord_settle words, enableWord_settle words, events_settle, words]
    cases l <;> rfl
  obtain ⟨v, settled, line⟩ := Option.map_eq_some_iff.1 attention
  simp only [attentionLevel, settled, Option.map_some, (settle_frame s).2.2.1, line, Option.some.injEq]
  cases l <;> (split <;> simp_all)

/-! ### Raising (R180) -/

theorem pendingWord_raiseOn_same {s : State} {w : PerLink EventUnit} (words : s.events = some w) (l : Link)
    (e : Event) :
    pendingWord (raiseOn l e s) l = (w.get l).pending ||| BitVec.twoPow 16 e.bit := by
  simp only [pendingWord, events_raiseOn, words, Option.map_some, get_set_same]
  rfl

theorem pendingWord_raiseOn_other {s : State} {w : PerLink EventUnit} (words : s.events = some w) (l : Link)
    (e : Event) : pendingWord (raiseOn l e s) (otherLink l) = (w.get (otherLink l)).pending := by
  simp only [pendingWord, events_raiseOn, words, Option.map_some, get_set_other]

theorem enableWord_raiseOn {s : State} {w : PerLink EventUnit} (words : s.events = some w) (l k : Link) (e : Event) :
    enableWord (raiseOn l e s) k = (w.get k).enable := by
  rw [enableWord_of_latches (latches_raiseOn l e s), enableWord, words]

theorem raiseOn_raiseOn (l : Link) (e : Event) {s : State} {w : PerLink EventUnit} (words : s.events = some w) :
    raiseOn l e (raiseOn l e s) = raiseOn l e s := by
  simp [raiseOn, words, EventUnit.latch, State.setEvents, BitVec.or_assoc]

/-- Settles O51: latching and settling, word by word and line by line. -/
theorem eventsLatchAndLinesFollow : Obligations.EventsLatchAndLinesFollow :=
  ⟨fun l e _ _ words => ⟨pendingWord_raiseOn_same words l e, pendingWord_raiseOn_other words l e,
      fun k => enableWord_raiseOn words l k e, rfl, raiseOn_raiseOn l e words⟩,
    fun l s _ words => ⟨pendingWord_settle words l, enableWord_settle words l, getLsbD_levelWord s,
      attentionLevel_settle words l⟩⟩

end Sys2Proof.Machine
end

section
/-! PROOF. Resets, their end and the self-test (12.1, R192, R193). -/

namespace Sys2Proof.Machine

/-! ### The resets (R192; log 4, log 6, log 18, log 29) -/

theorem exec_reset {c : Instr} {bySupply : Bool} {s : State} (which : (c = .powerOn ∧ bySupply = true) ∨
    (c = .pinReset ∧ bySupply = decide (s.seq.phase = .held true))) : exec c s = .next (holdInReset bySupply s) := by
  rcases which with ⟨rfl, rfl⟩ | ⟨rfl, rfl⟩
  · rfl
  · have holds : supplyHolds s = decide (s.seq.phase = .held true) := by
      unfold supplyHolds
      split
      case h_1 b held => cases b <;> simp [held]
      case h_2 other => simpa using fun held => other true held
    rw [← holds]
    rfl

theorem cutOffFlash_of_idle {s : State} (idle : ∀ o, s.store.op = some o → o.working = none) :
    cutOffFlash s = s.store.flash := by
  unfold cutOffFlash
  cases op : s.store.op with
  | none => rfl
  | some o =>
    have none : cutOffRange o = none := by simp [cutOffRange, idle o op]
    simp [none]

/-- A byte outside what the operation in flight was acting on keeps its value. -/
theorem flashRead_cutOffFlash {s : State} (law : StoreLaw s) {a : Nat}
    (outside : ∀ o r, s.store.op = some o → cutOffRange o = some r → a < r.1 ∨ r.1 + r.2 ≤ a) :
    flashRead (cutOffFlash s) a = flashRead s.store.flash a := by
  unfold cutOffFlash
  cases op : s.store.op with
  | none => rfl
  | some o =>
    cases range : cutOffRange o with
    | none => simp [range]
    | some r =>
      obtain ⟨first, count⟩ := r
      have apart := outside o (first, count) op range
      simp only [Option.bind_some, range]
      rw [flashRead_flashFill law.1 (cutOffRange_le range), if_neg (by omega)]

/-! ### The end of a reset (R13, R179, R181, R184) -/

/-- The state LEAVE_RESET leads to, before its events settle. -/
def released (bySupply : Bool) (straps : Straps) (s : State) : State :=
  { s with
    seq := { phase := .cacheRam 0, straps := straps, cause := if bySupply then .power else .pin, failMask := 0,
             reinit := .idle },
    front := .reset straps, timing := .reset 0, store := .reset s.store.flash erasedPage false,
    cache := .reset false, engine := .reset, links := ⟨.reset, .reset⟩, auth := .reset, events := eventsReset }

theorem exec_leaveReset {bySupply : Bool} {s : State} (straps : Straps) (held : s.seq.phase = .held bySupply) :
    exec (.leaveReset straps) s = .next (settle (released bySupply straps s)) := by
  simp only [exec, execLeaveReset, held]
  rfl

theorem axisLost_of_reset {s : State} {straps : Straps} (front : s.front = .reset straps) : s.axisLost = false := by
  have never (a : Axis) : (s.front.axes.get a).state ≠ .lost := by
    rw [front]
    cases a <;> simp only [FrontEnd.reset, PerAxis.get, AxisUnit.reset] <;> split <;> nofun
  by_contra lost
  obtain ⟨a, -, lost⟩ := (axisLost_iff s).1 (by simpa using lost)
  exact never a lost

theorem levelWord_released (bySupply : Bool) (straps : Straps) (s : State) :
    levelWord (released bySupply straps s) = Event.mask .tableMissing := by
  have quiet : (released bySupply straps s).axisLost = false := axisLost_of_reset rfl
  have missing : (released bySupply straps s).tableMissing = true := rfl
  have peace : (released bySupply straps s).auth.conflict = false := rfl
  have passed : (released bySupply straps s).selfTestFailed = false := rfl
  simp [levelWord, quiet, missing, peace, passed]

/-- Settles O19: the resets hold the part with its blocks reset, and LEAVE_RESET releases it. -/
theorem resetsAndTheirEnd : Obligations.ResetsAndTheirEnd := by
  refine ⟨fun c bySupply s law which => ?reset, fun bySupply straps s held => ?release⟩
  case reset =>
    exact ⟨_, exec_reset which, rfl, rfl, rfl, rfl, rfl, rfl, rfl, rfl, rfl, cutOffFlash_of_idle,
      fun a => flashRead_cutOffFlash law⟩
  case release =>
    have words : (released bySupply straps s).events = eventsReset := rfl
    refine ⟨_, exec_leaveReset straps held, ?_⟩
    simp only [settle_frame]
    refine ⟨rfl, rfl, rfl, rfl, rfl, rfl, rfl, rfl, fun l => ?_⟩
    have pending : pendingWord (settle (released bySupply straps s)) l = Event.mask .tableMissing := by
      rw [pendingWord_settle words, levelWord_released]
      cases l <;> rfl
    have enable : enableWord (settle (released bySupply straps s)) l = 0xFFFF := by
      rw [enableWord_settle words]
      cases l <;> rfl
    refine ⟨pending, enable, (attentionLevel_settle words l).2 ?_⟩
    rw [pending, enable]
    decide

/-! ### The self-test (R193) -/

@[simp] theorem now_settle (s : State) : (settle s).now = s.now := by simp [State.now]

@[simp] theorem now_advanceTo (t : Instant) (s : State) : (advanceTo t s).now = laterOf t s.now := rfl

@[simp] theorem now_setPhase (x : Phase) (s : State) : (setPhase x s).now = s.now := rfl

@[simp] theorem seq_setPhase (x : Phase) (s : State) : (setPhase x s).seq = { s.seq with phase := x } := rfl

@[simp] theorem now_failBits (n : Nat) (s : State) : (failBits n s).now = s.now := rfl

@[simp] theorem seq_failBits (n : Nat) (s : State) :
    (failBits n s).seq = { s.seq with failMask := s.seq.failMask ||| BitVec.ofNat 8 n } := rfl

theorem exec_cacheRamCheckDone {since : Instant} {s : State} (passed : Bool) (phase : s.seq.phase = .cacheRam since) :
    exec (.cacheRamCheckDone passed) s = .next (settle (setPhase (.encoders (advanceTo (addInterval since 2000) s).now
        ⟨.reading 1, if s.seq.straps.zoomFitted then .reading 1 else .notRead,
          if s.seq.straps.irisFitted then .reading 1 else .notRead⟩)
      ((failBits (if passed then 0 else 1) (advanceTo (addInterval since 2000) s)).setCache (.reset (!passed))))) := by
  simp [exec, execCacheRamCheckDone, phase, answer, State.fitted, fittedBy]

theorem anyTest_eq_true_iff {f : EncoderTest → Bool} {tests : PerAxis EncoderTest} :
    anyTest f tests = true ↔ ∃ a, f (tests.get a) = true := by
  simp only [anyTest, Bool.or_eq_true]
  constructor
  · rintro ((found | found) | found)
    exacts [⟨.focus, found⟩, ⟨.zoom, found⟩, ⟨.iris, found⟩]
  · rintro ⟨a, found⟩
    cases a with
    | focus => exact .inl (.inl found)
    | zoom => exact .inl (.inr found)
    | iris => exact .inr found

theorem isReading_iff {x : EncoderTest} : x.isReading = true ↔ ∃ n, x = .reading n := by
  cases x <;> simp [EncoderTest.isReading]

theorem isWaiting_iff {x : EncoderTest} : x.isWaiting = true ↔ ∃ n, x = .waiting n := by
  cases x <;> simp [EncoderTest.isWaiting]

theorem exec_selfTestEncoderAttempt {attempt : Instant} {tests : PerAxis EncoderTest} {s : State}
    (phase : s.seq.phase = .encoders attempt tests) (idle : ∀ a n, tests.get a ≠ .reading n)
    (waits : ∃ a n, tests.get a = .waiting n) :
    exec .selfTestEncoderAttempt s = .next (settle (setPhase (.encoders (addInterval attempt 500)
      (tests.mapAxes fun _ x => x.retry)) (advanceTo (addInterval attempt 500) s))) := by
  have reading : anyTest EncoderTest.isReading tests = false := by
    rw [Bool.eq_false_iff, ne_eq, anyTest_eq_true_iff]
    rintro ⟨a, reads⟩
    obtain ⟨n, reads⟩ := isReading_iff.1 reads
    exact idle a n reads
  have waiting : anyTest EncoderTest.isWaiting tests = true := by
    obtain ⟨a, n, waits⟩ := waits
    exact anyTest_eq_true_iff.2 ⟨a, isWaiting_iff.2 ⟨n, waits⟩⟩
  simp only [exec, execSelfTestEncoderAttempt, phase, reading, waiting]
  rfl

theorem get_mapAxes {α β : Type} (f : Axis → α → β) (p : PerAxis α) (a : Axis) :
    (p.mapAxes f).get a = f a (p.get a) := by
  cases a <;> rfl

theorem exec_selfTestEncoderReadDone {attempt : Instant} {tests : PerAxis EncoderTest} {a : Axis} {n : Nat} {s : State}
    (phase : s.seq.phase = .encoders attempt tests) (reads : tests.get a = .reading n) (bits : BitVec 16) :
    exec (.selfTestEncoderReadDone a bits) s = .next (settle (afterEncoderRead attempt
      (tests.set a (judgeTest n (answerValid bits))) (advanceTo (addInterval attempt 20) s))) := by
  simp only [exec, execSelfTestEncoderReadDone, phase, reads]
  rfl

theorem judgeTest_eq (n : Nat) (valid : Bool) :
    judgeTest n valid = if valid then .passed else if n < 3 then .waiting n else .failed := by
  unfold judgeTest
  split
  · rfl
  · by_cases more : n < 3
    · rw [if_pos more, if_neg (by omega)]
    · rw [if_neg more, if_pos (by omega)]

theorem now_afterEncoderRead (attempt : Instant) (tests : PerAxis EncoderTest) (s : State) :
    (afterEncoderRead attempt tests s).now = s.now := by
  unfold afterEncoderRead
  split <;> rfl

theorem afterEncoderRead_goesOn {attempt : Instant} {tests : PerAxis EncoderTest} (s : State)
    (more : ∃ b m, tests.get b = .reading m ∨ tests.get b = .waiting m) :
    afterEncoderRead attempt tests s = setPhase (.encoders attempt tests) s := by
  obtain ⟨b, m, reads | waits⟩ := more
  · have reading : anyTest EncoderTest.isReading tests = true := anyTest_eq_true_iff.2 ⟨b, isReading_iff.2 ⟨m, reads⟩⟩
    simp [afterEncoderRead, reading]
  · have waiting : anyTest EncoderTest.isWaiting tests = true := anyTest_eq_true_iff.2 ⟨b, isWaiting_iff.2 ⟨m, waits⟩⟩
    simp [afterEncoderRead, waiting]

theorem afterEncoderRead_ends {attempt : Instant} {tests : PerAxis EncoderTest} (s : State)
    (ended : ∀ b m, tests.get b ≠ .reading m ∧ tests.get b ≠ .waiting m) :
    afterEncoderRead attempt tests s = setPhase (.marker false s.now) (failBits (encoderFailBits tests) s) := by
  have reading : anyTest EncoderTest.isReading tests = false := by
    rw [Bool.eq_false_iff, ne_eq, anyTest_eq_true_iff]
    rintro ⟨b, reads⟩
    obtain ⟨m, reads⟩ := isReading_iff.1 reads
    exact (ended b m).1 reads
  have waiting : anyTest EncoderTest.isWaiting tests = false := by
    rw [Bool.eq_false_iff, ne_eq, anyTest_eq_true_iff]
    rintro ⟨b, waits⟩
    obtain ⟨m, waits⟩ := isWaiting_iff.1 waits
    exact (ended b m).2 waits
  simp [afterEncoderRead, reading, waiting]

theorem encoderFailBits_eq (tests : PerAxis EncoderTest) : BitVec.ofNat 8 (encoderFailBits tests) =
    (if tests.focus = .failed then 4 else 0) ||| (if tests.zoom = .failed then 8 else 0) |||
      (if tests.iris = .failed then 16 else 0) := by
  simp only [encoderFailBits]
  by_cases focus : tests.focus = .failed <;> by_cases zoom : tests.zoom = .failed <;>
    by_cases iris : tests.iris = .failed <;> simp only [focus, zoom, iris] <;> rfl

theorem markerSet_iff (m : List Host.Cell) :
    markerSet m = true ↔ ∃ i < 16, flashRead m (458752 + i) ≠ 0xFF := by
  have base : markerBase = 458752 := rfl
  simp [markerSet, flashBytes, erasedByte, base]

/-- Settles O20. -/
theorem selfTestSteps : Obligations.SelfTestSteps := by
  refine ⟨fun since ok s phase => ⟨_, exec_cacheRamCheckDone ok phase, ?ram⟩,
    fun attempt tests s phase idle waits => ⟨_, exec_selfTestEncoderAttempt phase idle waits, ?attempt⟩,
    fun attempt tests a n bits s phase reads => ?read, fun reinit since s phase => ?marker⟩
  case ram =>
    simp only [now_settle, settle_frame]
    refine ⟨by simp, ?_, rfl, by simp, by simp, by simp, by simp, by simp, by simp⟩
    cases ok <;> simp
  case attempt =>
    simp only [now_settle, settle_frame]
    refine ⟨by simp, ⟨tests.mapAxes fun _ x => x.retry, by simp, fun b => ⟨fun n waits => ?_, fun other => ?_⟩⟩,
      by simp, by simp, by simp, by simp⟩
    · rw [get_mapAxes, waits]
      rfl
    · rw [get_mapAxes]
      cases test : tests.get b with
      | waiting n => exact absurd test (other n)
      | _ => rfl
  case read =>
    have test : judgeTest n (answerValid bits) =
        if answerValid bits then .passed else if n < 3 then .waiting n else .failed := judgeTest_eq n _
    refine ⟨_, exec_selfTestEncoderReadDone phase reads bits, ?_⟩
    rw [test]
    simp only [now_settle, settle_frame]
    refine ⟨?_, ?_, fun more => ?_, fun ended => ?_⟩
    · simp
    · rw [now_afterEncoderRead, now_advanceTo]
    · rw [afterEncoderRead_goesOn _ more]
      simp
    · rw [afterEncoderRead_ends _ ended]
      simp only [seq_setPhase, seq_failBits, encoderFailBits_eq, now_setPhase, now_failBits, true_and]
      simp [BitVec.or_assoc]
  case marker =>
    refine ⟨settle (setPhase (.scan reinit (advanceTo (addInterval since 40) s).now)
      ((advanceTo (addInterval since 40) s).setStore
        { (advanceTo (addInterval since 40) s).store with readProtection := markerSet s.store.flash })), ?_, ?_⟩
    · simp [exec, execMarkerAreaReadDone, phase, answer]
    · simp [markerSet_iff]

end Sys2Proof.Machine
end

section
/-! PROOF. Requests: which frames are requests, and what becomes of one that is not taken or only reads. -/

namespace Sys2Proof.Machine

/-! ### Frames as requests -/

/-- A kind that is unknown is none of those a row names. -/
theorem goodFrame_of_unknown {k : Byte} (unknown : kindUnknown k = true) (l : Link) (t : Instant) (p : List Byte)
    (s : State) : goodFrame l t k p s = takeUnknownKind l t k s := by
  simp only [kindUnknown, Bool.and_eq_true, Bool.not_eq_true', bne_iff_ne, ne_eq] at unknown
  obtain ⟨other, ability⟩ := unknown
  unfold goodFrame
  split
  case h_1 kind => exact absurd kind ability
  case h_30 => rfl
  all_goals next kind => rw [kind] at other; exact absurd other (by decide)

/-- A well-formed frame other than ABILITY is taken as a request of its kind. -/
theorem exec_request {c : Instr} {l : Link} {t : Instant} (request : requestOf c = some (l, t))
    (formed : c.wellFormed = true) : ∃ kind checks act, ∀ s : State,
      exec c s = .next (settle (takeRequest l t kind checks act s)) := by
  cases c
  case unknownKindRequest l' t' k p =>
    cases request
    have unknown : kindUnknown k = true := by
      simp only [Instr.wellFormed, Bool.and_eq_true] at formed
      exact formed.1
    exact ⟨k, _, _, fun s => congrArg answer (goodFrame_of_unknown unknown l t p s)⟩
  all_goals cases request
  all_goals exact ⟨_, _, _, fun _ => rfl⟩

theorem frameEnds_eq_timed (l : Link) (t : Instant) (s : State) : frameEnds l t s = { s with
    timing := { s.timing with timebase := laterOf t s.timing.timebase },
    links := s.links.set l { s.link l with parser := .hunting } } := rfl

/-- Settles O46: the ways in which `takeRequest` does not serve. -/
theorem requestsNotTakenHaveNoEffect : Obligations.RequestsNotTakenHaveNoEffect := by
  refine ⟨fun c l t s request formed out apart => ?_, fun c l t s request formed started up =>
    ⟨fun restarts => ?_, fun idle full => ?_⟩⟩
  all_goals
    obtain ⟨kind, checks, act, meaning⟩ := exec_request request formed
    rw [meaning]
  · rw [takeRequest_outside_up out apart]
    rfl
  · rw [takeRequest_of_reinit started up restarts]
  · rw [takeRequest_of_full started up idle full]

/-! ### Requests that only read (R16, R101, R102, R134, R173, R177, R178, R182) -/

theorem enableWord_settle_any (s : State) (l : Link) : enableWord (settle s) l = enableWord s l := by
  cases words : s.events with
  | none => simp [enableWord, events_settle, words]
  | some w => rw [enableWord_settle words, enableWord, words]

theorem enableWord_of_same_events {s u : State} (events : u.events = s.events) (l : Link) :
    enableWord u l = enableWord s l := by
  simp only [enableWord, events]

/-- From `s` to `u` a request of a link has changed no more than its time, its link's unit, pending words and the
model's free counter. -/
structure OnlyRead (l : Link) (s u : State) : Prop where
  seq : u.seq = s.seq
  front : u.front = s.front
  timing : u.timing = { s.timing with timebase := u.timing.timebase }
  store : u.store = s.store
  cache : u.cache = s.cache
  engine : u.engine = s.engine
  auth : u.auth = s.auth
  other : u.link (otherLink l) = s.link (otherLink l)
  state : (u.link l).state = (s.link l).state
  enable : ∀ k, enableWord u k = enableWord s k

namespace OnlyRead

variable {l : Link} {s u : State}

theorem same : OnlyRead l s s := ⟨rfl, rfl, rfl, rfl, rfl, rfl, rfl, rfl, rfl, fun _ => rfl⟩

theorem frameEnds (t : Instant) : OnlyRead l s (frameEnds l t s) :=
  ⟨rfl, rfl, rfl, rfl, rfl, rfl, rfl, by cases l <;> rfl, by cases l <;> rfl, fun _ => rfl⟩

theorem received (t : Instant) : OnlyRead l s (received l t s) :=
  ⟨rfl, rfl, rfl, rfl, rfl, rfl, rfl, by cases l <;> rfl, by cases l <;> rfl, fun _ => rfl⟩

/-- A change of the link's own unit that keeps its state. -/
theorem of_link (read : OnlyRead l s u) (v : State) (rest : v.seq = u.seq ∧ v.front = u.front ∧ v.timing = u.timing ∧
    v.store = u.store ∧ v.cache = u.cache ∧ v.engine = u.engine ∧ v.auth = u.auth)
    (other : v.link (otherLink l) = u.link (otherLink l)) (state : (v.link l).state = (u.link l).state)
    (enable : ∀ k, enableWord v k = enableWord u k) : OnlyRead l s v := by
  obtain ⟨seq, front, timing, store, cache, engine, auth⟩ := rest
  exact ⟨seq.trans read.seq, front.trans read.front, by rw [timing]; exact read.timing, store.trans read.store,
    cache.trans read.cache, engine.trans read.engine, auth.trans read.auth, other.trans read.other,
    state.trans read.state, fun k => (enable k).trans (read.enable k)⟩

theorem raiseOn (read : OnlyRead l s u) (k : Link) (e : Event) : OnlyRead l s (raiseOn k e u) :=
  read.of_link _ (by simp) (by simp) (by simp) fun j => enableWord_of_latches (latches_raiseOn k e u) j

theorem setLink (read : OnlyRead l s u) (v : LinkUnit) (state : v.state = (u.link l).state) :
    OnlyRead l s (u.setLink l v) :=
  read.of_link _ ⟨rfl, rfl, rfl, rfl, rfl, rfl, rfl⟩ (by simp) (by simp [state]) fun _ => rfl

theorem startTransmit (read : OnlyRead l s u) : OnlyRead l s (startTransmit l u) :=
  read.of_link _ (by simp) (link_startTransmit_other l u) (state_startTransmit l u)
    (enableWord_of_same_events (by simp))

theorem joinReply (read : OnlyRead l s u) (k : Byte) (p : List Byte) : OnlyRead l s (joinReply l k p u) :=
  (read.setLink { u.link l with replies := (u.link l).replies ++ [⟨k, p⟩] } rfl).startTransmit

theorem refuse (read : OnlyRead l s u) (k : Byte) (c : Code) : OnlyRead l s (refuse l k c u) := by
  unfold Machine.refuse
  split
  · exact read.setLink _ rfl
  · exact read.joinReply _ _

theorem settle (read : OnlyRead l s u) : OnlyRead l s (settle u) :=
  read.of_link _ (by simp) (congrFun (congrArg (fun x : PerLink LinkUnit => x.get) (by simp)) _)
    (congrArg LinkUnit.state (link_of_links (by simp) l)) (enableWord_settle_any u)

end OnlyRead

/-- A request that does no more than answer has only read. -/
theorem onlyRead_takeRequest {l : Link} {act : State → State} (answers : ∀ s u, OnlyRead l s u → OnlyRead l s (act u))
    (t : Instant) (kind : Byte) (checks : State → Checks) (s : State) :
    OnlyRead l s (takeRequest l t kind checks act s) := by
  rcases takeRequest_cases l t kind checks act s with same | ends | discarded | full | ⟨c, refused⟩ | acts
  · rw [same]; exact .same
  · rw [ends]; exact .frameEnds t
  · rw [discarded]; exact .received t
  · rw [full]; exact (OnlyRead.received t).raiseOn _ _
  · rw [refused]; exact (OnlyRead.received t).refuse _ _
  · rw [acts]; exact answers s _ (.received t)

/-- The read requests answer with their fields. -/
theorem exec_readsOnly {c : Instr} {l : Link} {t : Instant} (reads : readsOnly c = true)
    (request : requestOf c = some (l, t)) : ∃ kind checks act, (∀ s u, OnlyRead l s u → OnlyRead l s (act u)) ∧
      ∀ s : State, exec c s = .next (settle (takeRequest l t kind checks act s)) := by
  cases c
  case readStatus =>
    cases request
    exact ⟨_, _, _, fun s u read => OnlyRead.joinReply (u := u.setFree (u.free + 1))
      (read.of_link _ ⟨rfl, rfl, rfl, rfl, rfl, rfl, rfl⟩ rfl rfl fun _ => rfl) _ _, fun _ => rfl⟩
  case identify | readPosition | readEvents | readModeSet | readMarks | cacheStatus | dumpCache =>
    cases request
    exact ⟨_, _, _, fun s u read => read.joinReply _ _, fun _ => rfl⟩
  all_goals cases reads

theorem dumpChecks_pass {first last : Byte} (order : first.toNat ≤ min 63 last.toNat) (l : Link) (s : State) :
    refusalOf (dumpChecks [first, last]) l s = none := by
  have order : ¬ dumpEnd [first, last] < byteAt [first, last] 0 := not_lt.2 order
  simp [refusalOf, dumpChecks, lengthOnly, order]

theorem readModeChecks_pass {n : Byte} (known : n.toNat ≤ 3) (l : Link) (s : State) :
    refusalOf (readModeChecks [n]) l s = none := by
  have known : ¬ 3 < byteAt [n] 0 := not_lt.2 known
  simp [refusalOf, readModeChecks, lengthOnly, known]

theorem le8_toNat (n : Byte) : le8 n.toNat = [n] := by simp [le8]

/-- Settles O47: each read request is carried out at its right length, and no more is done than to answer. -/
theorem readRequestsAreAnswered : Obligations.ReadRequestsAreAnswered := by
  refine ⟨fun l t s serves => ⟨?_, ?_, ?_, ?_, fun first last order => ?_, fun n known => ?_⟩,
    fun c l t s u reads request steps => ?_⟩
  · exact congrArg answer (takeRequest_lengthOnly serves t 0x10 _)
  · exact congrArg answer (takeRequest_lengthOnly serves t 0x11 _)
  · exact congrArg answer (takeRequest_lengthOnly serves t 0x12 _)
  · exact congrArg answer (takeRequest_lengthOnly serves t 0x3A _)
  · exact congrArg answer (takeRequest_carriedOut (checks := fun _ => dumpChecks [first, last]) serves
      (dumpChecks_pass order l _) 0x3B _)
  · have taken := congrArg answer (takeRequest_carriedOut (checks := fun _ => readModeChecks [n]) serves
      (readModeChecks_pass known l (received l t s)) 0x23
      (fun s => replyOk l 0x23 (le8 n.toNat ++ readModeFields n.toNat s.engine) s))
    refine Eq.trans taken ?_
    rw [le8_toNat]
    rfl
  · obtain ⟨kind, checks, act, answers, meaning⟩ := exec_readsOnly reads request
    rw [meaning] at steps
    cases steps
    have read := (onlyRead_takeRequest answers t kind checks s).settle
    exact ⟨read.seq, read.front, read.timing, read.store, read.cache, read.engine, read.auth, read.other, read.state,
      read.enable⟩

end Sys2Proof.Machine
end

section
/-! PROOF. The requests on the frame format and on the mode sets (R25, R26, R132, R133). -/

namespace Sys2Proof.Machine

/-! ### FRAME FORMAT and FRAME INFO (R25, R26) -/

theorem clampNat_eq {lo hi : Nat} (range : lo ≤ hi) (x : Nat) : clampNat lo hi x = min hi (max lo x) := by
  unfold clampNat
  split
  · omega
  · split <;> omega

theorem refusalOf_bodyOnly {ok : Bool} (length : ok = true) (s : State) :
    refusalOf (bodyOnly .body ok) .body s = none := by
  subst length
  rfl

theorem formatOf_eq (p : List Byte) : formatOf p =
    ⟨min 30000 (max 1000 (field16 p 0)), min 100000 (field32 p 2), min 200000 (field32 p 6),
      min 100000 (max 500 (field32 p 10)), min 1000000 (max 1 (field32 p 14)), min 100000 (field32 p 18)⟩ := by
  simp [formatOf, clampNat_eq]

theorem infoOf_eq (p : List Byte) (f : FrameFormat) : infoOf p f = { f with
    exposure := min 1000000 (max 1 (field32 p 0)), readout := min 100000 (field32 p 4) } := by
  simp [infoOf, clampNat_eq]

/-- Settles O52: the body link's request of the right length is carried out, and its fields are clamped. -/
theorem frameFormatIsReplaced : Obligations.FrameFormatIsReplaced := by
  refine fun t p s serves => ⟨fun length => ?format, fun length => ?info⟩
  case format =>
    rw [← formatOf_eq]
    exact congrArg answer (takeRequest_carriedOut (checks := fun _ => bodyOnly .body (p.length == 22)) serves
      (refusalOf_bodyOnly (by simp [length]) _) 0x20 _)
  case info =>
    rw [← infoOf_eq]
    exact congrArg answer (takeRequest_carriedOut (checks := fun _ => bodyOnly .body (p.length == 8)) serves
      (refusalOf_bodyOnly (by simp [length]) _) 0x21 _)

/-! ### What a re-evaluation leaves of the timing -/

/-- Frame timing apart from the pending list and the skip counter. -/
def Timing.clock (t : Timing) : Timing := { t with frames := [], skip := 0 }

theorem now_of_clock {s u : State} (clock : u.timing.clock = s.timing.clock) : u.now = s.now := by
  have same : u.timing.clock.timebase = s.timing.clock.timebase := by rw [clock]
  exact same

theorem clock_stopIfNeeded (s : State) : (stopIfNeeded s).timing.clock = s.timing.clock := by
  unfold stopIfNeeded
  split
  · simp [leaveRunning, discardFrames, Timing.clock]
  · rfl

theorem clock_enterSelected (s : State) : (enterSelected s).timing.clock = s.timing.clock := by
  unfold enterSelected
  split <;> rfl

theorem clock_followConfiguration (s : State) : (followConfiguration s).timing.clock = s.timing.clock := by
  simp

theorem clock_startIfReady (s : State) : (startIfReady s).timing.clock = s.timing.clock := by
  unfold startIfReady
  split
  · exact clock_enterSelected s
  · rfl

theorem clock_reevaluate (s : State) : (reevaluate s).timing.clock = s.timing.clock :=
  (clock_startIfReady _).trans ((clock_followConfiguration _).trans (clock_stopIfNeeded s))

@[simp] theorem now_reevaluate (s : State) : (reevaluate s).now = s.now := now_of_clock (clock_reevaluate s)

/-! ### WRITE MODE SET (R132, R133) -/

/-- The ladder of WRITE MODE SET passes a payload of the right length and choices from a link that may write it. -/
theorem writeModeChecks_pass {l : Link} {p : List Byte} {s : State} (length : modeLengthOk p = true)
    (choices : modeChoicesOk p = true)
    (permitted : byteAt p 0 = 3 ∧ l = .body ∨ byteAt p 0 < 3 ∧ MayCommand l s ∧ s.engine.state ≠ .pattern) :
    refusalOf (writeModeChecks l p s) l s = none := by
  rcases permitted with ⟨number, body⟩ | ⟨number, may, outside⟩
  · simp [refusalOf, writeModeChecks, length, choices, number, body]
  · have other : byteAt p 0 ≠ 3 := by omega
    simp [refusalOf, writeModeChecks, length, choices, number, other, authorityRefusal_of_mayCommand may,
      patternRefusal_of_outside outside]

/-- The engine's four mode sets. -/
def Engine.modeSets (e : Engine) : ModeSet MS0 × ModeSet MS1 × ModeSet MS2 × ModeSet MS3 := (e.ms0, e.ms1, e.ms2, e.ms3)

theorem modeSets_followConfiguration (s : State) :
    (followConfiguration s).engine.modeSets = s.engine.modeSets := by
  unfold followConfiguration
  split
  case h_1 => split <;> rfl
  case h_2 => split <;> rfl
  all_goals rfl

theorem modeSets_startIfReady (s : State) : (startIfReady s).engine.modeSets = s.engine.modeSets := by
  unfold startIfReady enterSelected
  split
  · split <;> rfl
  · rfl

/-- An engine that does not run keeps its mode sets through a re-evaluation. -/
theorem modeSets_reevaluate {s : State} (still : s.engine.state.runs = false) :
    (reevaluate s).engine.modeSets = s.engine.modeSets := by
  have stays : stopIfNeeded s = s := by simp [stopIfNeeded, still]
  rw [reevaluate, stays, modeSets_startIfReady, modeSets_followConfiguration]

theorem runs_writeSet (staging : Bool) (p : List Byte) (e : Engine) : (writeSet staging p e).state = e.state := by
  unfold writeSet
  split <;> rfl

theorem modeSets_writeMode (l : Link) (p : List Byte) (s : State) :
    (writeMode l p s).engine.modeSets = (writeSet s.engine.state.runs p s.engine).modeSets := by
  have engine : (writeMode l p s).engine = (if s.engine.state.runs
      then s.setEngine (writeSet s.engine.state.runs p s.engine)
      else reevaluate (s.setEngine (writeSet s.engine.state.runs p s.engine))).engine := by simp [writeMode, replyOk]
  rw [engine]
  cases running : s.engine.state.runs with
  | true => rfl
  | false => exact modeSets_reevaluate (by simp [runs_writeSet, running])

theorem links_writeMode (l : Link) (p : List Byte) (s : State) : (writeMode l p s).links =
    (joinReply l 0x22 (0 :: (le8 (byteAt p 0) ++ leFlag s.engine.state.runs ++ clampedFields p)) s).links := by
  unfold writeMode replyOk
  apply links_joinReply_congr
  all_goals split
  all_goals simp [maxRecordLevel]

/-- A WRITE MODE SET that passes its checks writes the set it names and replies with its clamped contents. -/
theorem exec_writeModeSet {l : Link} {p : List Byte} {s : State} {t : Instant} (serves : Serves l s)
    (passes : refusalOf (writeModeChecks l p (received l t s)) l (received l t s) = none) :
    ∃ u, exec (.writeModeSet l t p) s = .next u ∧
      u.engine.modeSets = (writeSet s.engine.state.runs p s.engine).modeSets ∧
      u.links = (joinReply l 0x22 (0 :: (le8 (byteAt p 0) ++ leFlag s.engine.state.runs ++ clampedFields p))
        (received l t s)).links := by
  refine ⟨_, congrArg answer (takeRequest_carriedOut serves passes 0x22 _), ?_, ?_⟩
  · simpa using modeSets_writeMode l p (received l t s)
  · simp [links_writeMode]

theorem ms0Of_eq (p : List Byte) : ms0Of p = ⟨min 8000 (max 500 (field16 p 1)) / 500 * 500, min 20000 (field16 p 3),
    min 64 (byteAt p 5), min 8000 (max 300 (field16 p 6)), byteAt p 8 == 1⟩ := by
  simp [ms0Of, clampSpan, clampNat_eq]

theorem ms1Of_eq (p : List Byte) : ms1Of p = ⟨min 100 (byteAt p 1), min 50000 (field16 p 2), byteAt p 4 == 1⟩ := by
  simp [ms1Of, clampNat_eq]

theorem ms2Of_eq (p : List Byte) : ms2Of p = ⟨min 100 (byteAt p 1), min 32767 (max 4096 (field16 p 2))⟩ := by
  simp [ms2Of, clampNat_eq]

theorem ms3Of_eq (p : List Byte) : ms3Of p = ⟨byteAt p 1 == 1, if byteAt p 2 = 1 then .neutral else .hold,
    min 1000 (max 100 (field16 p 3))⟩ := by
  simp [ms3Of, clampNat_eq]

/-- The length check of a payload that is not empty, by the set it names. -/
theorem modeLengthOk_of_length {p : List Byte} (present : p.length ≠ 0) : modeLengthOk p =
    match byteAt p 0 with
    | 0 => p.length == 9
    | 1 => p.length == 5
    | 2 => p.length == 4
    | 3 => p.length == 5
    | _ => true := by
  cases p with
  | nil => exact absurd rfl present
  | cons => rfl

/-- Settles O53: a set that is written comes into force or is staged by whether the engine runs, and R133's count. -/
theorem modeSetIsWritten : Obligations.ModeSetIsWritten := by
  refine ⟨fun l t p s serves may outside length number choice => ?ms0,
    fun l t p s serves may outside length number choice => ?ms1,
    fun l t p s serves may outside length number => ?ms2,
    fun t p s serves length number pattern policy => ?ms3,
    fun α m x staged => ⟨fun first => ?counted, fun second => ?applied⟩⟩
  case ms0 =>
    obtain ⟨u, meaning, sets, links⟩ := exec_writeModeSet (p := p) (t := t) serves (writeModeChecks_pass
      (by rw [modeLengthOk_of_length (by omega), number]; simp [length]) (by simp [modeChoicesOk, number, choice])
      (.inr ⟨by omega, may, outside⟩))
    rw [← ms0Of_eq]
    refine ⟨u, meaning, (congrArg Prod.fst sets).trans ?_, links.trans ?_⟩
    · simp [Engine.modeSets, writeSet, number, ModeSet.write]
    · simp [clampedFields, number, le8]
  case ms1 =>
    obtain ⟨u, meaning, sets, links⟩ := exec_writeModeSet (p := p) (t := t) serves (writeModeChecks_pass
      (by rw [modeLengthOk_of_length (by omega), number]; simp [length]) (by simp [modeChoicesOk, number, choice])
      (.inr ⟨by omega, may, outside⟩))
    rw [← ms1Of_eq]
    refine ⟨u, meaning, (congrArg (fun x => x.2.1) sets).trans ?_, links.trans ?_⟩
    · simp [Engine.modeSets, writeSet, number, ModeSet.write]
    · simp [clampedFields, number, le8]
  case ms2 =>
    obtain ⟨u, meaning, sets, links⟩ := exec_writeModeSet (p := p) (t := t) serves (writeModeChecks_pass
      (by rw [modeLengthOk_of_length (by omega), number]; simp [length]) (by simp [modeChoicesOk, number])
      (.inr ⟨by omega, may, outside⟩))
    rw [← ms2Of_eq]
    refine ⟨u, meaning, (congrArg (fun x => x.2.2.1) sets).trans ?_, links.trans ?_⟩
    · simp [Engine.modeSets, writeSet, number, ModeSet.write]
    · simp [clampedFields, number, le8]
  case ms3 =>
    obtain ⟨u, meaning, sets, links⟩ := exec_writeModeSet (p := p) (t := t) serves (writeModeChecks_pass
      (by rw [modeLengthOk_of_length (by omega), number]; simp [length])
      (by simp [modeChoicesOk, number, pattern, policy]) (.inl ⟨number, rfl⟩))
    rw [← ms3Of_eq]
    refine ⟨u, meaning, (congrArg (fun x => x.2.2.2) sets).trans ?_, links.trans ?_⟩
    · simp [Engine.modeSets, writeSet, number, ModeSet.write]
    · simp [clampedFields, number, le8]
  case counted => simp [ModeSet.onSync, staged, first]
  case applied => simp [ModeSet.onSync, staged, second]

end Sys2Proof.Machine
end

section
/-! PROOF. Refusals: each check of R175 in its rank, and what a refused request does. -/

namespace Sys2Proof.Machine

/-! ### The ranks (R175) -/

section

variable {l : Link} {t : Instant} {p : List Byte} {s : State}

/-- A payload of a wrong length is refused before anything else. -/
theorem takeRequest_badLength {kind : Byte} {checks : State → Checks} {ok : Bool} (serves : Serves l s)
    (plain : kind ≠ 0x44) (wrong : ok = false)
    (first : (checks (received l t s)).first = if ok then none else some .badLength) (act : State → State) :
    takeRequest l t kind checks act s = joinReply l kind [0x10] (received l t s) := by
  refine takeRequest_refused (c := .badLength) serves plain ?_ act
  simp [refusalOf, first, wrong]

/-- A request from the link that may not send it is refused second. -/
theorem takeRequest_notPermitted {kind : Byte} {checks : State → Checks} (serves : Serves l s)
    (plain : kind ≠ 0x44) (first : (checks (received l t s)).first = none)
    (permitted : (checks (received l t s)).permitted = false) (act : State → State) :
    takeRequest l t kind checks act s = joinReply l kind [0x12] (received l t s) := by
  refine takeRequest_refused (c := .notPermitted) serves plain ?_ act
  simp [refusalOf, first, permitted]

/-- The refusals of an authority request that come before its parameters. -/
def commandRefusal (l : Link) (s : State) : Option Code := (authorityRefusal l s).or (patternRefusal s)

theorem refusalOf_authority {ok : Bool} {parameter : Option Code} {c : Code} (length : ok = true)
    (refused : (commandRefusal l s).or parameter = some c) :
    refusalOf (authorityChecks ok s parameter) l s = some c := by
  subst length
  exact (refusalOf_authorityChecks l s parameter).trans refused

theorem refusalOf_writeModeChecks (length : modeLengthOk p = true) (number : byteAt p 0 < 3) :
    refusalOf (writeModeChecks l p s) l s =
      (commandRefusal l s).or (if modeChoicesOk p then none else some .outOfRange) := by
  have other : byteAt p 0 ≠ 3 := by omega
  simp only [refusalOf, writeModeChecks, length, number, commandRefusal]
  cases authorityRefusal l s <;> cases patternRefusal s <;> simp [other]

theorem refusalOf_storeChecks {ok : Bool} (length : ok = true) (parameter : Option Code) :
    refusalOf (storeChecks .accessory ok s parameter) .accessory s = (storeRefusal s).or parameter := by
  subst length
  simp only [refusalOf, storeChecks, lengthOnly]
  cases storeRefusal s <;> rfl

theorem commandRefusal_of_mayCommand (may : MayCommand l s) : commandRefusal l s = patternRefusal s := by
  rw [commandRefusal, authorityRefusal_of_mayCommand may, Option.none_or]

/-- CONFLICT, NOT_AUTHORITY and PATTERN_ACTIVE, in the order of ranks 3 and 4. -/
theorem commandRefusal_eq {c : Byte} (refused : (s.auth.conflict = true ∧ c = 0x13) ∨
    (s.auth.conflict = false ∧ s.auth.holder = some (otherLink l) ∧ c = 0x14) ∨
    (MayCommand l s ∧ s.engine.state = .pattern ∧ c = 0x15)) :
    ∃ x : Code, x.byte = c ∧ commandRefusal l s = some x := by
  rcases refused with ⟨conflict, code⟩ | ⟨peace, held, code⟩ | ⟨may, pattern, code⟩
  · exact ⟨.conflict, code.symm, by rw [commandRefusal, authorityRefusal_of_conflict conflict]; rfl⟩
  · exact ⟨.notAuthority, code.symm, by rw [commandRefusal, authorityRefusal_of_otherHolder peace held]; rfl⟩
  · exact ⟨.patternActive, code.symm, by rw [commandRefusal_of_mayCommand may, patternRefusal_of_pattern pattern]⟩

/-- PATTERN_ACTIVE, ENGINE_ACTIVE and BUSY of a store request (R69). -/
theorem storeRefusal_eq {c : Byte} (refused : (s.engine.state = .pattern ∧ c = 0x15) ∨
    (s.engine.state = .running ∧ c = 0x16) ∨
    (s.engine.state.runs = false ∧ s.store.op.isSome = true ∧ c = 0x17)) :
    ∃ x : Code, x.byte = c ∧ storeRefusal s = some x := by
  rcases refused with ⟨pattern, code⟩ | ⟨running, code⟩ | ⟨still, busy, code⟩
  · exact ⟨.patternActive, code.symm, by simp [storeRefusal, pattern]⟩
  · exact ⟨.engineActive, code.symm, by simp [storeRefusal, running]⟩
  · refine ⟨.busy, code.symm, ?_⟩
    cases state : s.engine.state
    case unconfigured | standby => simp [storeRefusal, state, busy]
    all_goals simp [EngineState.runs, state] at still

theorem storeRefusal_of_idle (still : s.engine.state.runs = false) (idle : s.store.op = none) :
    storeRefusal s = none := by
  cases state : s.engine.state
  case unconfigured | standby => simp [storeRefusal, state, idle]
  all_goals simp [EngineState.runs, state] at still

/-- A READ STORE is refused at once unless one before it is unanswered. -/
theorem takeReadStore_refused {c : Code} (serves : Serves l s) (answered : l = .body ∨ readStoreOutstanding s = false)
    (refused : refusalOf (readStoreChecks l p (received l t s)) l (received l t s) = some c) :
    takeReadStore l t p s = joinReply l 0x44 [c.byte] (received l t s) := by
  rw [takeReadStore, takeRequest_of_serves serves, refused]
  exact refuse_eq_joinReply (s := received l t s) (.inr answered) c

/-- A READ STORE behind an unanswered one is refused, and the refusal held back. -/
theorem takeReadStore_held {c : Code} (serves : Serves .accessory s) (outstanding : readStoreOutstanding s = true)
    (refused : refusalOf (readStoreChecks .accessory p (received .accessory t s)) .accessory (received .accessory t s) =
      some c) :
    takeReadStore .accessory t p s = (received .accessory t s).setLink .accessory
      { (received .accessory t s).link .accessory with
        heldBack := (s.link .accessory).heldBack ++ [⟨0x44, [c.byte]⟩] } := by
  rw [takeReadStore, takeRequest_of_serves serves, refused]
  exact refuse_eq_hold (s := received .accessory t s) outstanding c

theorem first_readStoreChecks (wrong : p.length ≠ 4) :
    refusalOf (readStoreChecks l p s) l s = some .badLength := by
  simp [refusalOf, readStoreChecks, lengthOnly, wrong]

end

/-- Settles O60: each request's checks, rank by rank, and the refusal they give. -/
theorem refusalsFollowTheirRank : Obligations.RefusalsFollowTheirRank := by
  refine ⟨fun l t p s serves => ?lengths, fun l t p s serves => ?ranks⟩
  case lengths =>
    refine ⟨fun wrong => ?_, fun wrong => ?_, fun wrong => ?_, fun wrong answered => ?_, fun wrong => ?_,
      fun wrong => ?_, fun wrong => ?_, fun wrong => ?_, fun k unknown => ?_⟩
    · have wrong : p.isEmpty = false := by cases p <;> simp_all
      refine ⟨?_, ?_, ?_, ?_, ?_, ?_, ?_, ?_, ?_, ?_, ?_, ?_, ?_⟩ <;>
        exact congrArg answer (takeRequest_badLength serves (by decide) wrong rfl _)
    · have wrong : (p.length == 1) = false := by simpa using wrong
      refine ⟨?_, ?_, ?_⟩ <;> exact congrArg answer (takeRequest_badLength serves (by decide) wrong rfl _)
    · have wrong : (p.length == 2) = false := by simpa using wrong
      refine ⟨?_, ?_, ?_, ?_, ?_, ?_⟩ <;>
        exact congrArg answer (takeRequest_badLength serves (by decide) wrong rfl _)
    · exact congrArg answer (takeReadStore_refused (c := .badLength) serves answered (first_readStoreChecks wrong))
    · have wrong : (p.length == 8) = false := by simpa using wrong
      exact congrArg answer (takeRequest_badLength serves (by decide) wrong rfl _)
    · have wrong : (p.length == 22) = false := by simpa using wrong
      exact congrArg answer (takeRequest_badLength serves (by decide) wrong rfl _)
    · have wrong : decide (2 ≤ p.length ∧ p.length ≤ 129) = false := by simp; omega
      exact congrArg answer (takeRequest_badLength serves (by decide) wrong rfl _)
    · have wrong : markLengthOk p = false := by simp [markLengthOk]; omega
      exact congrArg answer (takeRequest_badLength serves (by decide) wrong rfl _)
    · have plain : k ≠ 0x44 := by
        rintro rfl
        exact absurd unknown (by decide)
      refine congrArg answer ((goodFrame_of_unknown unknown l t p s).trans ?_)
      exact takeRequest_refused (c := .unknownKind) serves plain rfl _
  case ranks =>
    refine ⟨?_, ?_, fun c refused => ?_, fun c accessory refused => ?_, fun accessory outstanding c refused => ?_,
      fun accessory still idle length => ⟨fun number => ?_, fun number => ?_⟩, fun length number => ?_,
      fun may outside length number => ?_⟩
    · rintro rfl
      refine ⟨fun length => ?_, fun length => ?_, fun length number => ?_⟩
      · exact congrArg answer (takeRequest_notPermitted serves (by decide)
          (by simp [bodyOnly, lengthOnly, length]) rfl _)
      · exact congrArg answer (takeRequest_notPermitted serves (by decide)
          (by simp [bodyOnly, lengthOnly, length]) rfl _)
      · refine congrArg answer (takeRequest_notPermitted serves (by decide) ?_ ?_ _)
        · rw [writeModeChecks, modeLengthOk_of_length (by omega), number]
          simp [length]
        · simp [writeModeChecks, number]
    · rintro rfl
      refine ⟨fun length => ?_, fun length => ?_, fun length => ?_, fun length => ?_⟩
      · exact congrArg answer (takeRequest_notPermitted serves (by decide)
          (by simp [storeChecks, lengthOnly, length]) rfl _)
      · exact congrArg answer (takeRequest_notPermitted serves (by decide)
          (by simp [storeChecks, lengthOnly, length]) rfl _)
      · refine congrArg answer (takeReadStore_refused (c := .notPermitted) serves (.inl rfl) ?_)
        simp [refusalOf, readStoreChecks, lengthOnly, length]
      · exact congrArg answer (takeRequest_notPermitted serves (by decide)
          (by simp [storeChecks, lengthOnly, length]) rfl _)
    · obtain ⟨x, rfl, first⟩ := commandRefusal_eq refused
      have refused : ∀ parameter, (commandRefusal l (received l t s)).or parameter = some x := fun parameter => by
        rw [show commandRefusal l (received l t s) = some x from first, Option.some_or]
      refine ⟨?_, fun length => ?_, fun length => ?_, fun length number => ?_⟩
      · exact congrArg answer (takeRequest_refused (c := x) serves (by decide) (refusalOf_authority rfl (refused _)) _)
      · exact congrArg answer (takeRequest_refused (c := x) serves (by decide)
          (refusalOf_authority (by simp [length]) (refused _)) _)
      · exact congrArg answer (takeRequest_refused (c := x) serves (by decide)
          (refusalOf_authority (by simp [length]) (refused _)) _)
      · refine congrArg answer (takeRequest_refused (c := x) serves (by decide) ?_ _)
        rw [refusalOf_writeModeChecks (by rw [modeLengthOk_of_length (by omega), number]; simp [length]) (by omega)]
        exact refused _
    · subst accessory
      obtain ⟨x, rfl, first⟩ := storeRefusal_eq refused
      have refused : ∀ parameter, (storeRefusal (received .accessory t s)).or parameter = some x := fun parameter => by
        rw [show storeRefusal (received .accessory t s) = some x from first, Option.some_or]
      refine ⟨?_, ?_, ?_, fun length => ?_, fun length => ?_⟩
      all_goals exact congrArg answer (takeRequest_refused (c := x) serves (by decide)
          ((refusalOf_storeChecks (by simp [*]) _).trans (refused _)) _)
    · subst accessory
      rcases refused with ⟨wrong, rfl⟩ | ⟨length, rfl⟩
      · exact congrArg answer (takeReadStore_held (c := .badLength) serves outstanding (first_readStoreChecks wrong))
      · refine congrArg answer (takeReadStore_held (c := .busy) serves outstanding ?_)
        have outstanding : readStoreOutstanding (received .accessory t s) = true := outstanding
        simp [refusalOf, readStoreChecks, lengthOnly, length, readStoreRefusal, outstanding]
    · subst accessory
      refine congrArg answer (takeRequest_refused (c := .outOfRange) serves (by decide)
          ((refusalOf_storeChecks (by simp [length]) _).trans ?_) _)
      rw [storeRefusal_of_idle (s := received .accessory t s) still idle]
      simp [sectorRefusal, number]
    · subst accessory
      refine congrArg answer (takeRequest_refused (c := .isProtected) serves (by decide)
          ((refusalOf_storeChecks (by simp [length]) _).trans ?_) _)
      rw [storeRefusal_of_idle (s := received .accessory t s) still idle]
      rcases number with number | ⟨number, service⟩ <;> simp [sectorRefusal, *]
    · refine congrArg answer (takeRequest_refused (c := .outOfRange) serves (by decide) ?_ _)
      simp [refusalOf, readModeChecks, lengthOnly, length, number]
    · refine congrArg answer (takeRequest_refused (c := .outOfRange) serves (by decide)
        (refusalOf_authority (by simp [length]) ?_) _)
      rw [commandRefusal_of_mayCommand (s := received l t s) may,
        patternRefusal_of_outside (s := received l t s) outside]
      simp [lockRefusal, number]

end Sys2Proof.Machine
end

section
/-! PROOF. The taking of a store operation: withdrawals, the READ STORE it dismisses, and the operation in flight
(R60, R63, R64, R69 to R78). -/

namespace Sys2Proof.Machine

/-! ### Withdrawals -/

theorem store_invalidateKind (kind : TableKind) (s : State) :
    ∃ port, (invalidateKind kind s).store = { s.store with port := port } := by
  simp only [invalidateKind]
  split <;> exact ⟨_, rfl⟩

/-- A table choice that a sector's erase or program leaves: none of a table in that sector. -/
def keptTable (sector : BitVec 3) (t : Option ActiveTable) : Option ActiveTable :=
  t.filter fun x => decide (x.sector ≠ sector)

theorem sector_of_keptTable {sector : BitVec 3} {t : Option ActiveTable} {x : ActiveTable}
    (kept : keptTable sector t = some x) : x.sector ≠ sector := by
  simpa using (Option.filter_eq_some_iff.1 kept).2

theorem setActive_active (kind : TableKind) (s : State) : s.store.setActive kind (s.active kind) = s.store := by
  cases kind <;> rfl

theorem store_withdrawKind (kind : TableKind) (n : BitVec 3) (s : State) : ∃ port,
    (withdrawKind kind n s).store = { s.store.setActive kind (keptTable n (s.active kind)) with port := port } := by
  unfold withdrawKind
  split
  case h_1 t active =>
    by_cases here : t.sector = n
    · rw [if_pos here]
      obtain ⟨port, store⟩ := store_invalidateKind kind (s.setStore (s.store.setActive kind none))
      exact ⟨port, by rw [store, active]; simp [keptTable, here, Option.filter]⟩
    · have kept : keptTable n (s.active kind) = s.active kind := by simp [active, keptTable, here, Option.filter]
      rw [if_neg here, kept, setActive_active]
      exact ⟨_, rfl⟩
  case h_2 absent =>
    have kept : keptTable n (s.active kind) = s.active kind := by rw [absent]; rfl
    rw [kept, setActive_active]
    exact ⟨_, rfl⟩

/-- What the start of an erase or program does to the store (R60, R63, R64). -/
theorem store_beginOnSector (n : BitVec 3) (s : State) : ∃ port, (beginOnSector n s).store = { s.store with
    verdicts := s.store.verdicts.set n.toNat .unscanned
    breathing := keptTable n s.store.breathing
    shading := keptTable n s.store.shading
    sector0Valid := if n = 0 then false else s.store.sector0Valid
    description := if n = 0 then none else s.store.description
    port := port } := by
  obtain ⟨port, first⟩ := store_withdrawKind .breathing n
    (s.setStore { s.store with verdicts := s.store.verdicts.set n.toNat .unscanned })
  obtain ⟨port', second⟩ := store_withdrawKind .shading n (withdrawKind .breathing n
    (s.setStore { s.store with verdicts := s.store.verdicts.set n.toNat .unscanned }))
  simp only [State.active, first, Store.setActive, store_setStore] at second
  refine ⟨port', ?_⟩
  simp only [beginOnSector]
  split
  case isTrue zero => simp [withdrawSector0, second]
  case isFalse other => rw [second]

theorem state_leaveRunning (s : State) : (leaveRunning s).engine.state = .standby :=
  (engineCore_leaveRunning s).2

theorem configured_of_invalid {s : State} (invalid : s.store.sector0Valid = false) : configured s = false := by
  simp [configured, invalid]

/-- An engine whose sector 0 is not valid is UNCONFIGURED (R64, R127). -/
theorem state_reevaluate_of_invalid {s : State} (invalid : s.store.sector0Valid = false) :
    (reevaluate s).engine.state = .unconfigured := by
  have stopped : (stopIfNeeded s).engine.state.runs = false := by
    unfold stopIfNeeded
    split
    case isTrue => rw [state_leaveRunning]; rfl
    case isFalse stays => simpa [mayRun, configured_of_invalid invalid] using stays
  have unset : configured (stopIfNeeded s) = false := configured_of_invalid (by simp [invalid])
  have followed : (followConfiguration (stopIfNeeded s)).engine.state = .unconfigured := by
    unfold followConfiguration
    split
    case h_1 state => simp [unset, state]
    case h_2 state => simp [unset]
    case h_3 state => simp [state, EngineState.runs] at stopped
    case h_4 state => simp [state, EngineState.runs] at stopped
  simp [reevaluate, startIfReady, followed]

/-- The erase or program of sector 0 takes its description from the front end and the engine (R64). -/
theorem beginOnSector_zero {n : BitVec 3} (zero : n = 0) (s : State) :
    (beginOnSector n s).front.mapCopy = none ∧ (beginOnSector n s).engine.state = .unconfigured := by
  simp only [beginOnSector, if_pos zero, withdrawSector0]
  refine ⟨by simp [discardMaps], state_reevaluate_of_invalid ?_⟩
  simp

/-! ### The READ STORE that a store operation dismisses (R79, R81) -/

/-- What the taking of an operation does with a READ STORE that waits: it is answered BUSY. -/
def busyReads (waiting : List ReadRequest) (s : State) : State :=
  if waiting.isEmpty then s else answerReadStore [0x17] s

theorem dismissReads_eq {s : State} (one : s.store.readStoreWaiting.length ≤ 1) : dismissReads s =
    busyReads s.store.readStoreWaiting (s.setStore { s.store with readStoreWaiting := [] }) := by
  unfold dismissReads busyReads
  cases waiting : s.store.readStoreWaiting with
  | nil => rfl
  | cons r rest =>
    cases rest with
    | nil => rfl
    | cons => simp [waiting] at one

@[simp] theorem store_busyReads (waiting : List ReadRequest) (s : State) : (busyReads waiting s).store = s.store := by
  unfold busyReads
  split
  · rfl
  · simp

theorem links_busyReads_congr {s u : State} (links : u.links = s.links) (seq : u.seq = s.seq)
    (now : u.now = s.now) (level : maxRecordLevel u = maxRecordLevel s) (waiting : List ReadRequest) :
    (busyReads waiting u).links = (busyReads waiting s).links := by
  unfold busyReads
  split
  · exact links
  · rw [answerReadStore_eq, answerReadStore_eq]
    refine links_startTransmit_congr ?_ (by exact seq) (by exact now) (by exact level) _
    simp [State.setLink, State.link, links]

@[simp] theorem rest_busyReads (waiting : List ReadRequest) (s : State) :
    (busyReads waiting s).seq = s.seq ∧ (busyReads waiting s).timing = s.timing := by
  unfold busyReads
  split
  · simp
  · simp

/-- The state in which a store operation has been taken, before its reply. -/
def opTaken (o : StoreOp) (s : State) : State :=
  busyReads s.store.readStoreWaiting (s.setStore { s.store with op := some o, readStoreWaiting := [] })

theorem startOp_eq {name : StoreOpName} {n : Option (BitVec 3)} {p : Option (BitVec 8)} {s : State}
    (one : s.store.readStoreWaiting.length ≤ 1) (l : Link) : startOp l name n p s =
      joinReply l (BitVec.ofNat 8 name.code) [0x01] (opTaken ⟨name, n, p, none⟩ s) :=
  congrArg (joinReply l _ _) (dismissReads_eq
    (s := s.setStore { s.store with op := some ⟨name, n, p, none⟩ }) one)

theorem store_startOp {name : StoreOpName} {n : Option (BitVec 3)} {p : Option (BitVec 8)} {s : State}
    (one : s.store.readStoreWaiting.length ≤ 1) (l : Link) : (startOp l name n p s).store =
      { s.store with op := some ⟨name, n, p, none⟩, readStoreWaiting := [] } := by
  simp [startOp_eq one, opTaken]

theorem links_startOp {name : StoreOpName} {n : Option (BitVec 3)} {p : Option (BitVec 8)} {s : State}
    (one : s.store.readStoreWaiting.length ≤ 1) (l : Link) : (startOp l name n p s).links =
      (joinReply l (BitVec.ofNat 8 name.code) [0x01] (busyReads s.store.readStoreWaiting s)).links := by
  rw [startOp_eq one, opTaken]
  refine links_joinReply_congr (links_busyReads_congr (by rfl) (by rfl) (by rfl) (by rfl) _) ?_ ?_ ?_ l _ _
  · simp
  · simp [State.now]
  · simp [maxRecordLevel]

/-! ### The requests -/

theorem storeChecks_pass {s : State} {ok : Bool} {parameter : Option Code} (length : ok = true)
    (still : s.engine.state.runs = false) (idle : s.store.op = none) (passes : parameter = none) :
    refusalOf (storeChecks .accessory ok s parameter) .accessory s = none := by
  rw [refusalOf_storeChecks length, storeRefusal_of_idle still idle, passes]
  rfl

theorem sectorRefusal_of_writable {s : State} {n : Nat} (inside : n ≤ 6)
    (service : n = 0 → s.seq.straps.service = true) :
    sectorRefusal n s = none := by
  have below : ¬ 7 < n := by omega
  have other : n ≠ 7 := by omega
  by_cases zero : n = 0
  · simp [sectorRefusal, zero, service zero]
  · simp [sectorRefusal, below, other, zero]

/-- What an erase or program leaves when it is taken. -/
theorem startOnSector {name : StoreOpName} {n : Byte} {p : Option (BitVec 8)} {s : State}
    (one : s.store.readStoreWaiting.length ≤ 1) (inside : n.toNat ≤ 6) (l : Link) :
    let u := settle (beginOnSector (BitVec.ofNat 3 n.toNat) (startOp l name (some (BitVec.ofNat 3 n.toNat)) p s))
    u.store.op = some ⟨name, some (BitVec.ofNat 3 n.toNat), p, none⟩ ∧
      u.store.verdicts = s.store.verdicts.set n.toNat .unscanned ∧ u.store.flash = s.store.flash ∧
      u.store.pageBuffer = s.store.pageBuffer ∧
      (∀ k tb, u.active k = some tb → tb.sector.toNat ≠ n.toNat) ∧
      (n.toNat = 0 → u.store.sector0Valid = false ∧ u.front.mapCopy = none ∧ u.engine.state = .unconfigured) ∧
      u.links = (joinReply l (BitVec.ofNat 8 name.code) [0x01] (busyReads s.store.readStoreWaiting s)).links ∧
      u.auth = s.auth := by
  intro u
  have number : (BitVec.ofNat 3 n.toNat).toNat = n.toNat := by simp; omega
  obtain ⟨port, store⟩ := store_beginOnSector (BitVec.ofNat 3 n.toNat)
    (startOp l name (some (BitVec.ofNat 3 n.toNat)) p s)
  rw [store_startOp one, number] at store
  have settled : u.store = (beginOnSector (BitVec.ofNat 3 n.toNat)
    (startOp l name (some (BitVec.ofNat 3 n.toNat)) p s)).store := by simp [u]
  have store := settled.trans store
  have kept : ∀ t tb, keptTable (BitVec.ofNat 3 n.toNat) t = some tb → tb.sector.toNat ≠ n.toNat := by
    intro t tb keeps same
    exact sector_of_keptTable keeps (BitVec.eq_of_toNat_eq (same.trans number.symm))
  refine ⟨by rw [store], by rw [store], by rw [store], by rw [store], fun k tb active => ?_, fun zero => ?_, ?_, ?_⟩
  · cases k
    · exact kept _ tb ((congrArg Store.breathing store).symm.trans active)
    · exact kept _ tb ((congrArg Store.shading store).symm.trans active)
  · have zero : BitVec.ofNat 3 n.toNat = 0 := BitVec.eq_of_toNat_eq (number.trans zero)
    refine ⟨by rw [store]; simp [zero], ?_⟩
    simpa [u] using beginOnSector_zero zero (startOp l name (some (BitVec.ofNat 3 n.toNat)) p s)
  · simp [u, links_startOp one]
  · simp [u]

/-- Settles O58: each request passes its checks, and its operation is taken as `startOp` and `beginOnSector` say. -/
theorem storeOperationsAreTaken : Obligations.StoreOperationsAreTaken := by
  intro t s serves still idle one b busy taken
  refine ⟨fun n inside service => ?erase, fun n p inside service => ?program, ?rescan, ?protect, ?unprotect⟩
  case erase =>
    obtain ⟨op, verdicts, flash, -, active, zero, links, auth⟩ :=
      startOnSector (name := .eraseSector) (p := none) (s := b) one inside .accessory
    exact ⟨_, congrArg answer (takeRequest_carriedOut serves (storeChecks_pass rfl still idle
      (sectorRefusal_of_writable inside service)) 0x42 _), op, verdicts, flash, active, zero, links, auth⟩
  case program =>
    obtain ⟨op, verdicts, flash, buffer, active, -, links, auth⟩ :=
      startOnSector (name := .programPage) (p := some p) (s := b) one inside .accessory
    have page : BitVec.ofNat 8 (byteAt [n, p] 1) = p := by simp [byteAt]
    refine ⟨_, congrArg answer (takeRequest_carriedOut serves (storeChecks_pass rfl still idle
      (sectorRefusal_of_writable inside service)) 0x41 _), ?_⟩
    rw [page]
    exact ⟨op, verdicts, flash, buffer, active, links, auth⟩
  case rescan =>
    exact congrArg answer ((takeRequest_carriedOut serves (storeChecks_pass rfl still idle rfl) 0x43 _).trans
      (startOp_eq (s := b) one .accessory))
  case protect =>
    exact congrArg answer ((takeRequest_carriedOut serves (storeChecks_pass rfl still idle rfl) 0x45 _).trans
      (startOp_eq (s := b) one .accessory))
  case unprotect =>
    exact congrArg answer ((takeRequest_carriedOut serves (storeChecks_pass rfl still idle rfl) 0x46 _).trans
      (startOp_eq (s := b) one .accessory))

end Sys2Proof.Machine
end

section
/-! PROOF. LOAD PAGE BUFFER and READ STORE (R69, R71, R79). -/

namespace Sys2Proof.Machine

/-! ### The page buffer (R71) -/

theorem getD_loadBuffer {offset i : Nat} {data buffer : List Byte} (fits : offset + data.length ≤ buffer.length) :
    (loadBuffer offset data buffer).getD i 0 =
      if offset ≤ i ∧ i < offset + data.length then data.getD (i - offset) 0 else buffer.getD i 0 := by
  have front : (buffer.take offset).length = offset := by simp; omega
  unfold loadBuffer
  by_cases before : i < offset
  · rw [if_neg (by omega), List.append_assoc, List.getD_append _ _ _ _ (by omega)]
    simp [List.getD_eq_getElem?_getD, before]
  · by_cases inside : i < offset + data.length
    · rw [if_pos (by omega), List.getD_append _ _ _ _ (by simp; omega), List.getD_append_right _ _ _ _ (by omega),
        front]
    · rw [if_neg (by omega), List.getD_append_right _ _ _ _ (by simp; omega)]
      simp only [List.getD_eq_getElem?_getD, List.getElem?_drop, List.length_append, front]
      congr 2
      omega

/-! ### READ STORE (R79) -/

theorem readStoreParameter_of_readable {n offset count : Nat} {s : State} (sector : n ≤ 7) (some : 1 ≤ count)
    (few : count ≤ 128) (inside : offset + count ≤ 65536) (readable : n = 0 ∨ s.store.readProtection = false) :
    readStoreParameter n offset count s = none := by
  have range : ¬ (7 < n ∨ count = 0 ∨ 128 < count ∨ sectorSize < offset + count) := by simp only [sectorSize]; omega
  have open_ : ¬ (n ≠ 0 ∧ s.store.readProtection = true) := by
    rintro ⟨other, blocked⟩
    rcases readable with zero | clear
    · exact other zero
    · simp [blocked] at clear
  rw [readStoreParameter, if_neg range, if_neg open_]

/-- Settles O59: both requests pass their checks; the buffer is changed byte by byte, and the read joins the list. -/
theorem pageBufferAndReadStore : Obligations.PageBufferAndReadStore := by
  intro t s serves law idle b
  obtain ⟨-, buffer, -, -⟩ := law
  refine ⟨fun o data still some few fits => ?load, fun n x y c answered sector some few inside readable => ?read⟩
  case load =>
    refine ⟨_, congrArg answer (takeRequest_carriedOut serves (storeChecks_pass (by simp; omega) still idle
      (if_neg ?_)) 0x40 _), ?_⟩
    · show ¬ 256 < o.toNat + ((o :: data).length - 1)
      simp; omega
    have offset : byteAt (o :: data) 0 = o.toNat := rfl
    have fits : o.toNat + data.length ≤ s.store.pageBuffer.length := by omega
    have store : (settle (loadPage .accessory (o :: data) b)).store =
        { s.store with pageBuffer := loadBuffer o.toNat data s.store.pageBuffer } := by
      simp [loadPage, replyOk, offset, b]
    refine ⟨?_, ?_, ?_, fun i _ => ?_, ?_⟩
    · have links : (loadPage .accessory (o :: data) b).links = (joinReply .accessory 0x40 [0x00] b).links :=
        links_joinReply_congr (by rfl) (by rfl) (by rfl) (by rfl) _ _ _
      simpa using links
    · rw [store]
    · rw [store]; exact length_loadBuffer buffer (by omega)
    · rw [store]; exact getD_loadBuffer fits
    · simp [loadPage, replyOk]
  case read =>
    have answered : readStoreOutstanding (received .accessory t s) = false := answered
    have passes : refusalOf (readStoreChecks .accessory [n, x, y, c] (received .accessory t s)) .accessory
        (received .accessory t s) = none := by
      have parameter : readStoreParameter (byteAt [n, x, y, c] 0) (field16 [n, x, y, c] 1) (byteAt [n, x, y, c] 3)
          (received .accessory t s) = none := readStoreParameter_of_readable sector some few inside readable
      simp [refusalOf, readStoreChecks, lengthOnly, readStoreRefusal, idle, answered, parameter]
    exact congrArg answer (takeRequest_carriedOut serves passes 0x44 _)

end Sys2Proof.Machine
end

section
/-! PROOF. SET MARK and DELETE MARK (R99, R171, R172). -/

namespace Sys2Proof.Machine

/-! ### Looking up a mark -/

theorem findMark_removeMark_same (id : Nat) (marks : List Mark) : findMark id (removeMark id marks) = none := by
  simp [findMark, removeMark]

theorem findMark_removeMark_other {id j : Nat} (other : j ≠ id) (marks : List Mark) :
    findMark j (removeMark id marks) = findMark j marks := by
  rw [findMark, removeMark, List.find?_filter]
  refine congrArg (fun f => marks.find? f) (funext fun m => ?_)
  by_cases found : m.id = j
  · simp [found, other]
  · simp [found]

theorem findMark_insertMark_same {m : Mark} {marks : List Mark} (fresh : ∀ x ∈ marks, x.id ≠ m.id) :
    findMark m.id (insertMark m marks) = some m := by
  induction marks with
  | nil => simp [insertMark, findMark]
  | cons x xs ih =>
    unfold insertMark
    split
    · simp [findMark]
    · have passed : x.id ≠ m.id := fresh x (by simp)
      simpa [findMark, List.find?_cons, passed] using ih fun y mem => fresh y (by simp [mem])

theorem findMark_insertMark_other {j : Nat} {m : Mark} (other : j ≠ m.id) (marks : List Mark) :
    findMark j (insertMark m marks) = findMark j marks := by
  induction marks with
  | nil => simp [insertMark, findMark, other.symm]
  | cons x xs ih =>
    unfold insertMark
    split
    · simp [findMark, List.find?_cons, other.symm]
    · simp only [findMark, List.find?_cons] at ih ⊢
      rw [ih]

/-- A mark that is set is the one of its id, and the others stay (R171). -/
theorem findMark_placeMark (id power : Nat) (part : Option (List Byte)) (marks : List Mark) :
    findMark id (placeMark id power part marks) = some ⟨id, power, newLabel part (findMark id marks)⟩ ∧
      ∀ j, j ≠ id → findMark j (placeMark id power part marks) = findMark j marks := by
  refine ⟨findMark_insertMark_same (m := ⟨id, power, _⟩) fun x mem => (mem_removeMark.1 mem).2, fun j other => ?_⟩
  exact (findMark_insertMark_other (m := ⟨id, power, _⟩) other _).trans (findMark_removeMark_other other marks)

/-! ### The locked path of a mark (R99) -/

/-- A mark is an endpoint of a path that the cache holds locked or is locking. -/
def EndsPath (id : Nat) (c : Cache) : Prop :=
  ∃ p, c.walk.ends = some p ∧ (p.1 = id ∨ p.2 = id) ∧ (c.walk.state = .walking ∨ c.walk.state = .done)

theorem markChanged_cases (id : Nat) (s : State) :
    EndsPath id s.cache ∧ markChanged id s = (true, (s.setCache { unlockAll s.cache with
      walk := { s.cache.walk with state := .abandoned, rest := [] } }).setStore
        { s.store with port := dropWalkRead s.store.port }) ∨
    ¬EndsPath id s.cache ∧ markChanged id s = (false, s) := by
  simp only [markChanged, EndsPath]
  cases ends : s.cache.walk.ends with
  | none => simp
  | some p =>
    simp only [Option.some.injEq, exists_eq_left', eq_comm (b := id)]
    split
    case isTrue both => exact .inl ⟨by simpa using both, rfl⟩
    case isFalse either => exact .inr ⟨by simpa using either, rfl⟩

/-- What the flags of a reply say of a path released, and what was done to the cache. -/
def Released (id : Nat) (flags : Byte) (s u : State) : Prop :=
  (flags.getLsbD 1 = true ↔ EndsPath id s.cache) ∧
    (EndsPath id s.cache → u.cache.walk.state = .abandoned ∧ ∀ ways ∈ u.cache.sets, lockedCount ways = 0) ∧
    (¬EndsPath id s.cache → u.cache = s.cache)

theorem flags_getLsbD (moved released : Bool) :
    (BitVec.ofNat 8 (bitsOf [moved, released])).getLsbD 0 = moved ∧
      (BitVec.ofNat 8 (bitsOf [moved, released])).getLsbD 1 = released := by
  cases moved <;> cases released <;> decide

theorem released_markChanged (id : Nat) (moved : Bool) {s u : State}
    (cache : u.cache = (markChanged id s).2.cache) :
    Released id (BitVec.ofNat 8 (bitsOf [moved, (markChanged id s).1])) s u := by
  obtain ⟨-, flag⟩ := flags_getLsbD moved (markChanged id s).1
  rw [Released, flag, cache]
  rcases markChanged_cases id s with ⟨ends, change⟩ | ⟨kept, change⟩
  · rw [change]
    exact ⟨iff_of_true rfl ends, fun _ => ⟨rfl, fun _ => lockedCount_unlockAll (c := s.cache)⟩,
      fun not => absurd ends not⟩
  · rw [change]
    exact ⟨iff_of_false Bool.false_ne_true kept, fun ends => absurd ends kept, fun _ => rfl⟩

/-! ### The payload of SET MARK (R186) -/

/-- A SET MARK payload whose label part is absent, or a label of at most 8 bytes, has a length R186 allows, and names
the label the mark then has. -/
theorem label_of_payload {p label : List Byte} {old : Option Mark}
    (part : (byteAt p 3 = 255 ∧ p.length = 4 ∧ label = (old.map Mark.label).getD []) ∨
      (byteAt p 3 ≤ 8 ∧ p.length = 4 + byteAt p 3 ∧ label = textOf (p.drop 4))) :
    markLengthOk p = true ∧ newLabel (labelPart p) old = label := by
  rcases part with ⟨absent, length, rfl⟩ | ⟨short, length, rfl⟩
  · simp [markLengthOk, labelPart, newLabel, absent, length]
  · have present : byteAt p 3 ≠ 255 := by omega
    simp [markLengthOk, labelPart, newLabel, present, length, short]

/-- The power a SET MARK names, of its own or HERE, and that it is not refused. -/
theorem power_of_payload {p : List Byte} {a : Nat} {s : State} (id : byteAt p 0 ≤ 7)
    (power : (field16 p 1 ≠ 65535 ∧ a = min 20000 (field16 p 1)) ∨
      (field16 p 1 = 65535 ∧ s.store.sector0Valid = true ∧ (herePower s).map Prod.fst = some a)) :
    setMarkRefusal p s = none ∧ markPower p s = a := by
  have known : idRefusal (byteAt p 0) = none := if_neg (by omega)
  rcases power with ⟨own, rfl⟩ | ⟨here, valid, value⟩
  · simp [setMarkRefusal, markPower, known, namesHere, own, clampNat_zero]
  · obtain ⟨x, found, rfl⟩ := Option.map_eq_some_iff.1 value
    simp [setMarkRefusal, markPower, known, namesHere, here, found, hereRefusal, valid]

theorem authorityChecks_pass {l : Link} {s : State} {ok : Bool} {parameter : Option Code} (length : ok = true)
    (may : MayCommand l s) (outside : s.engine.state ≠ .pattern) (passes : parameter = none) :
    refusalOf (authorityChecks ok s parameter) l s = none := by
  subst length passes
  rw [refusalOf_authorityChecks, authorityRefusal_of_mayCommand may, patternRefusal_of_outside outside]
  rfl

theorem authorityChecks_parameter {l : Link} {s : State} {ok : Bool} {parameter : Option Code} {c : Code}
    (length : ok = true) (may : MayCommand l s) (outside : s.engine.state ≠ .pattern) (refused : parameter = some c) :
    refusalOf (authorityChecks ok s parameter) l s = some c := by
  subst length refused
  rw [refusalOf_authorityChecks, authorityRefusal_of_mayCommand may, patternRefusal_of_outside outside]
  rfl

/-! ### The two requests -/

theorem links_joinReply_markChanged (id : Nat) (x : Authority) (l : Link) (k : Byte) (p : List Byte) (s : State) :
    (joinReply l k p (markChanged id (s.setAuth x)).2).links = (joinReply l k p s).links := by
  rcases markChanged_snd id (s.setAuth x) with same | released
  · rw [same]
    exact links_joinReply_congr (by rfl) (by rfl) (by rfl) (by rfl) l k p
  · rw [released]
    exact links_joinReply_congr (by rfl) (by rfl) (by rfl) (by rfl) l k p

/-- A SET MARK that is carried out: the reply's flags say whether the mark was there and whether a path was released. -/
theorem setMark_does (l : Link) (p : List Byte) (s : State) : ∃ flags : Byte,
    (setMark l p s).links =
      (joinReply l 0x32 (0 :: (le8 (byteAt p 0) ++ le16 (markPower p s) ++ [flags])) s).links ∧
    (flags.getLsbD 0 = true ↔ (findMark (byteAt p 0) s.auth.marks).isSome = true) ∧
    Released (byteAt p 0) flags s (setMark l p s) := by
  let marked := s.setAuth { s.auth with
    marks := placeMark (byteAt p 0) (markPower p s) (labelPart p) s.auth.marks }
  refine ⟨BitVec.ofNat 8 (bitsOf [(findMark (byteAt p 0) s.auth.marks).isSome, (markChanged (byteAt p 0) marked).1]),
    links_joinReply_markChanged _ _ _ _ _ s, by rw [(flags_getLsbD _ _).1], ?_⟩
  refine released_markChanged (s := marked) _ _ ?_
  simp [setMark, marked, replyOk]

/-- A DELETE MARK of a mark that is there. -/
theorem deleteMark_does {id : Nat} {m : Mark} {s : State} (found : findMark id s.auth.marks = some m) (l : Link) :
    ∃ flags : Byte, (deleteMark l id s).links = (joinReply l 0x33 [0, flags] s).links ∧
      flags.getLsbD 0 = false ∧ Released id flags s (deleteMark l id s) := by
  let unmarked := s.setAuth { s.auth with marks := removeMark id s.auth.marks }
  have does : deleteMark l id s = replyOk l 0x33 (le8 (bitsOf [false, (markChanged id unmarked).1]))
      (markChanged id unmarked).2 := by
    unfold deleteMark
    rw [found]
  rw [does]
  refine ⟨BitVec.ofNat 8 (bitsOf [false, (markChanged id unmarked).1]),
    links_joinReply_markChanged _ _ _ _ _ s, (flags_getLsbD _ _).1, ?_⟩
  refine released_markChanged (s := unmarked) _ _ ?_
  simp [replyOk]

theorem Released.settle {id : Nat} {flags : Byte} {s u : State} (released : Released id flags s u) :
    Released id flags s (settle u) := by
  simpa [Released] using released

/-- Settles O55: the list by `placeMark` and `removeMark`, the path by `markChanged`, and the two refusals. -/
theorem marksAreSetAndDeleted : Obligations.MarksAreSetAndDeleted := by
  intro l t id s serves may law outside b endpoint released
  refine ⟨fun p label a known number part power => ?set, fun known missing => ?here, fun m known found => ?delete,
    fun known absent => ?absent, fun unknown => ⟨?noDelete, ?noSet⟩⟩
  case set =>
    obtain ⟨length, named⟩ := label_of_payload part
    obtain ⟨passes, value⟩ := power_of_payload (s := b) (number.symm ▸ known) power
    obtain ⟨flags, links, moved, path⟩ := setMark_does l p b
    have auth := auth_setMark l p b
    obtain ⟨found, others⟩ := findMark_placeMark (byteAt p 0) (markPower p b) (labelPart p) b.auth.marks
    rw [number, value] at auth links found others
    rw [number] at moved path
    rw [show newLabel (labelPart p) (findMark id.toNat b.auth.marks) = label from named] at found
    have meaning : exec (.setMark l t p) s = .next (settle (setMark l p b)) := congrArg answer
      (takeRequest_carriedOut serves (authorityChecks_pass length may outside passes) 0x32 _)
    refine ⟨_, flags, meaning, ?_, fun j other => ?_, ?_, ?_, ?_, moved, path.settle⟩
    · simpa [auth] using found
    · simp only [settle_frame, auth]
      exact others j other
    · rw [marksLaw_iff]
      simpa [auth] using marksOrdered_placeMark (power := a) (marks := b.auth.marks) law length known
    · simp [auth, b]
    · simpa [le8_toNat] using links
  case here =>
    have refused : setMarkRefusal [id, 0xFF, 0xFF, 0xFF] b = some .notConfigured := by
      have known : idRefusal (byteAt [id, 0xFF, 0xFF, 0xFF] 0) = none := if_neg (not_lt.2 known)
      have here : namesHere [id, 0xFF, 0xFF, 0xFF] = true := by simp [namesHere, field16, byteAt]
      rw [setMarkRefusal, known, here]
      exact hereRefusal_of_missing (s := b) missing
    exact congrArg answer (takeRequest_refused (c := .notConfigured) serves (by decide)
      (authorityChecks_parameter (by rfl) may outside refused) _)
  case delete =>
    obtain ⟨flags, links, moved, path⟩ := deleteMark_does (s := b) found l
    have auth := auth_deleteMark l id.toNat b
    have meaning : exec (.deleteMark l t [id]) s = .next (settle (deleteMark l id.toNat b)) := congrArg answer
      (takeRequest_carriedOut serves (authorityChecks_pass rfl may outside (if_neg (not_lt.2 known))) 0x33 _)
    refine ⟨_, flags, meaning, ?_, fun j other => ?_, ?_, ?_, moved, path.settle⟩
    · simpa [auth] using findMark_removeMark_same id.toNat b.auth.marks
    · simp only [settle_frame, auth]
      exact findMark_removeMark_other other b.auth.marks
    · simp [auth, b]
    · simpa using links
  case absent =>
    refine congrArg answer ((takeRequest_carriedOut serves (authorityChecks_pass rfl may outside
      (if_neg (not_lt.2 known))) 0x33 _).trans ?_)
    unfold deleteMark
    rw [show findMark (byteAt [id] 0) (received l t s).auth.marks = none from absent]
    rfl
  case noDelete =>
    exact congrArg answer (takeRequest_refused (c := .outOfRange) serves (by decide)
      (authorityChecks_parameter rfl may outside (if_pos unknown)) _)
  case noSet =>
    have refused : setMarkRefusal [id, 0, 0, 0] b = some .outOfRange := by
      have unknown : idRefusal (byteAt [id, 0, 0, 0] 0) = some .outOfRange := if_pos unknown
      rw [setMarkRefusal, unknown]
    exact congrArg answer (takeRequest_refused (c := .outOfRange) serves (by decide)
      (authorityChecks_parameter (by rfl) may outside refused) _)

end Sys2Proof.Machine
end

section
/-! PROOF. LOCK PATH and the lock walk's advance (R94 to R97). -/

namespace Sys2Proof.Machine

/-! ### The walk's advance (R96, R97) -/

/-- The state in which a walk has taken the cells that need no read. -/
def walkTaken (x : List Key × List (List Way) × Nat × Nat) (s : State) : State :=
  raiseIf x.1.isEmpty .lockDone (s.setCache { s.cache with sets := x.2.1, walk := { s.cache.walk with
    rest := x.1, locked := x.2.2.1, skipped := x.2.2.2, state := if x.1.isEmpty then .done else .walking } })

/-- A walk that waits at a cell has nothing to take. -/
theorem walkTaken_same {s : State} (walking : s.cache.walk.state = .walking) (waits : s.cache.walk.rest ≠ []) :
    walkTaken (s.cache.walk.rest, s.cache.sets, s.cache.walk.locked, s.cache.walk.skipped) s = s := by
  have more : s.cache.walk.rest.isEmpty = false := by simpa using waits
  simp only [walkTaken, more, Bool.false_eq_true, if_false, ← walking]
  rfl

theorem walkAdvance_of_walking {s : State} (walking : s.cache.walk.state = .walking) : walkAdvance s =
    walkTaken (walkCells s.cache.walk.rest s.cache.sets s.cache.walk.locked s.cache.walk.skipped) s := by
  unfold walkAdvance
  rw [if_neg (not_not.2 walking)]
  rfl

/-- The walk sees no more of its cells than `walkCells` leaves to take. -/
theorem walkAdvance_goesOn {s : State} {rest : List Key} {sets : List (List Way)} {locked skipped : Nat}
    (walking : s.cache.walk.state = .walking)
    (cells : walkCells s.cache.walk.rest s.cache.sets s.cache.walk.locked s.cache.walk.skipped =
      walkCells rest sets locked skipped) :
    walkAdvance s = walkAdvance { s with cache := { s.cache with sets := sets, walk := { s.cache.walk with
      rest := rest, locked := locked, skipped := skipped } } } := by
  rw [walkAdvance_of_walking walking, cells]
  exact (walkAdvance_of_walking (s := { s with cache := { s.cache with sets := sets, walk := { s.cache.walk with
    rest := rest, locked := locked, skipped := skipped } } }) walking).symm

theorem raise_eq (e : Event) (s : State) : raise e s = { s with
    events := s.events.map fun w => ⟨w.body.latch e, w.accessory.latch e⟩ } := by
  cases words : s.events with
  | none => 
    unfold raise raiseOn
    simp only [words]
    cases s; cases words; rfl
  | some w =>
    unfold raise raiseOn
    simp only [words]
    rfl

theorem lockInSet_eq_map (k : Key) (ways : List Way) : lockInSet k ways = ways.map fun v =>
    if v.holds k then { v with content := v.content.map fun c => { c with locked := true } } else v := by
  refine List.map_congr_left fun v _ => ?_
  cases content : v.content with
  | none => simp [Way.holds, content]
  | some c => simp [Way.holds, content]

/-! ### LOCK PATH -/

theorem lockRefusal_of_ready {x y : Nat} {start stop : Mark} {focal iris : Nat} {s : State}
    (valid : s.store.sector0Valid = true) (enabled : s.cache.disabled = false) (first : x ≤ 7) (last : y ≤ 7)
    (begins : findMark x s.auth.marks = some start) (ends : findMark y s.auth.marks = some stop)
    (zoom : latestFocal s = some focal) (aperture : latestIris s = some iris) : lockRefusal x y s = none := by
  have known : ¬(7 < x ∨ 7 < y) := by omega
  simp [lockRefusal, known, begins, ends, valid, planValueMissing, zoom, aperture, enabled]

theorem planOf_eq {x y : Nat} {start stop : Mark} {focal iris : Nat} {s : State}
    (begins : findMark x s.auth.marks = some start) (ends : findMark y s.auth.marks = some stop)
    (zoom : latestFocal s = some focal) (aperture : latestIris s = some iris) :
    planOf x y s = lockPlan s.store.breathing s.store.shading start.power stop.power focal iris := by
  simp [planOf, powerOfMark, begins, ends, zoom, aperture]

/-- Settles O56: LOCK PATH forms the plan and the walk advances, by the cases of `walkCells`. -/
theorem lockPathStartsTheWalk : Obligations.LockPathStartsTheWalk := by
  refine ⟨fun l t x y start stop focal iris s serves may outside valid enabled first last begins ends zoom aperture =>
      ?_,
    fun s walking => ⟨fun ended => ?done, fun k ks rest => ⟨fun full => ?skips, fun room cached => ?locks,
      fun room uncached => ?waits⟩⟩⟩
  · intro plan b
    have planned : planOf (byteAt [x, y] 0) (byteAt [x, y] 1) b = plan :=
      planOf_eq (s := b) begins ends zoom aperture
    refine congrArg answer ((takeRequest_carriedOut serves (authorityChecks_pass rfl may outside
      (lockRefusal_of_ready (s := b) valid enabled first last begins ends zoom aperture)) 0x38 _).trans ?_)
    simp only [lockPath]
    rw [show planOf (byteAt [x, y] 0) (byteAt [x, y] 1) (received l t s) = plan from planned]
    rfl
  case done =>
    rw [walkAdvance_of_walking walking, ended]
    exact raise_eq .lockDone _
  case skips =>
    refine walkAdvance_goesOn walking ?_
    rw [rest, walkCells, if_pos full]
  case locks =>
    refine walkAdvance_goesOn walking ?_
    have cached : (setOf k s.cache.sets).any (Way.holds k) = true := cached
    rw [rest, walkCells, if_neg (not_le.2 room), if_pos cached, changeSet, lockInSet_eq_map]
  case waits =>
    have uncached : ¬(setOf k s.cache.sets).any (Way.holds k) = true := Bool.eq_false_iff.1 uncached
    rw [walkAdvance_of_walking walking, rest, walkCells, if_neg (not_le.2 room), if_neg uncached, ← rest]
    exact walkTaken_same walking (by simp [rest])

end Sys2Proof.Machine
end

section
/-! PROOF. The frame parser and the transmitters (R146, R147, R150). -/

namespace Sys2Proof.Machine

/-! ### What the bytes after a marker do (R147) -/

theorem frameEffect_continues {bytes : List Byte}
    (more : bytes.length < 2 ∨ (byteAt bytes 1 ≤ 240 ∧ bytes.length < byteAt bytes 1 + 4)) :
    frameEffect bytes = .continues bytes := by
  unfold frameEffect
  rcases more with short | ⟨length, short⟩
  · rw [if_pos short]
  · dsimp only
    split
    · rfl
    · rw [if_neg (not_lt.2 length)]

theorem frameEffect_abandons {bytes : List Byte} (begun : 2 ≤ bytes.length)
    (bad : 240 < byteAt bytes 1 ∨
      (byteAt bytes 1 + 4 ≤ bytes.length ∧ crcAgrees bytes (byteAt bytes 1) = false)) :
    frameEffect bytes = .abandons := by
  unfold frameEffect
  dsimp only
  rw [if_neg (not_lt.2 begun)]
  rcases bad with long | ⟨whole, differs⟩
  · rw [if_pos long]
  · split
    · rfl
    · rw [if_neg (not_lt.2 whole), if_neg (by simp [differs])]

theorem frameEffect_completes {bytes : List Byte} (begun : 2 ≤ bytes.length) (length : byteAt bytes 1 ≤ 240)
    (whole : byteAt bytes 1 + 4 ≤ bytes.length) (agrees : crcAgrees bytes (byteAt bytes 1) = true) :
    frameEffect bytes = .completes (bytes.getD 0 0) ((bytes.drop 2).take (byteAt bytes 1)) := by
  unfold frameEffect
  dsimp only
  rw [if_neg (not_lt.2 begun), if_neg (not_lt.2 length), if_neg (not_lt.2 whole), if_pos agrees]

/-- A byte received after start-up acts by its effect on the parser. -/
theorem exec_byteReceived {s : State} (started : s.started = true) (l : Link) (t : Instant) (b : Byte) :
    exec (.byteReceived l t b) s = answer (match byteEffect (s.link l).parser b with
      | .ignored => advanceTo t s
      | .continues bytes => continueFrame l t bytes s
      | .abandons => abandonFrame l t s
      | .completes kind payload => goodFrame l t kind payload s) := by
  refine congrArg answer ?_
  simp only [receiveByte, isHeld_of_started started, started]
  rfl

theorem exec_frameAbandoned {s : State} (started : s.started = true) {l : Link} {b : Byte}
    (abandons : byteEffect (s.link l).parser b = .abandons) (t : Instant) :
    exec (.frameAbandoned l t b) s = answer (abandonFrame l t s) := by
  show execFrameAbandoned l t b s = _
  simp only [execFrameAbandoned, abandons, started, if_true]

theorem exec_frameGapTimeout {s : State} {l : Link} {bytes : List Byte} {due : Instant}
    (within : (s.link l).parser = .inFrame bytes due) :
    exec (.frameGapTimeout l) s = answer (abandonFrame l due s) := by
  show execFrameGapTimeout l s = _
  simp only [execFrameGapTimeout, within]

/-- Settles O39: a byte by its effect on the parser, and a good frame by its kind. -/
theorem bytesBuildFrames : Obligations.BytesBuildFrames := by
  refine ⟨fun l t b s started => ⟨fun hunting other => ?discarded, fun hunting marker => ?begins,
    fun bytes due within => ⟨fun more => ?goesOn, fun ⟨begun, bad⟩ => ?abandoned,
    fun begun length whole agrees => ?ends,
      exec_frameGapTimeout within⟩⟩, fun l t p s => ?kinds⟩
  case discarded =>
    have effect : byteEffect (s.link l).parser b = .ignored := by
      rw [hunting]
      exact if_neg other
    rw [exec_byteReceived started, effect]
    rfl
  case begins =>
    have effect : byteEffect (s.link l).parser b = .continues [] := by simp [byteEffect, hunting, marker]
    rw [exec_byteReceived started, effect]
    rfl
  case goesOn =>
    have effect : byteEffect (s.link l).parser b = .continues (bytes ++ [b]) := by
      rw [within]
      exact frameEffect_continues more
    rw [exec_byteReceived started, effect]
    rfl
  case abandoned =>
    have effect : byteEffect (s.link l).parser b = .abandons := by
      rw [within]
      exact frameEffect_abandons begun bad
    rw [exec_frameAbandoned started effect, exec_byteReceived started, effect]
    exact ⟨rfl, rfl⟩
  case ends =>
    have effect : byteEffect (s.link l).parser b = .completes ((bytes ++ [b]).getD 0 0)
        (((bytes ++ [b]).drop 2).take (byteAt (bytes ++ [b]) 1)) := by
      rw [within]
      exact frameEffect_completes begun length whole agrees
    rw [exec_byteReceived started, effect]
    rfl
  case kinds => exact ⟨rfl, rfl, rfl, rfl, rfl, rfl, rfl, rfl, rfl, rfl, rfl, rfl, rfl, rfl, rfl, rfl, rfl, rfl, rfl,
      rfl, rfl, rfl, rfl, rfl, rfl, rfl, rfl, rfl, rfl⟩

/-! ### The transmitter's choice (R150) -/

theorem startTransmit_of_busy {l : Link} {s : State}
    (busy : (s.link l).sending.isSome = true ∨ (s.link l).renegotiateDue = true ∨ s.seq.reinit = .due) :
    startTransmit l s = s := by
  unfold startTransmit
  rw [if_pos]
  rcases busy with busy | busy | busy <;> simp [busy]

section

variable {l : Link} {s : State} (free : (s.link l).sending = none) (quiet : (s.link l).renegotiateDue = false)
  (runs : s.seq.reinit ≠ .due)

include free quiet runs

theorem startTransmit_of_free : startTransmit l s = (match (s.link l).records with
    | f :: fs => s.setLink l { s.link l with records := fs, sending := some (f, s.now) }
    | [] => match (s.link l).replies with
      | f :: fs => s.setLink l { s.link l with replies := fs, sending := some (f, s.now) }
      | [] => if (s.link l).abilityWaiting
        then s.setLink l { s.link l with
          abilityWaiting := false, sending := some (⟨0x01, abilityPayload l s⟩, s.now) }
        else s) := by
  have idle : ((s.link l).sending.isSome || (s.link l).renegotiateDue || decide (s.seq.reinit = .due)) = false := by
    simp [free, quiet, runs]
  unfold startTransmit
  simp only [idle]
  rfl

theorem link_startTransmit_record {g : TxFrame} {gs : List TxFrame} (records : (s.link l).records = g :: gs) :
    (startTransmit l s).link l = { s.link l with records := gs, sending := some (g, s.now) } := by
  rw [startTransmit_of_free free quiet runs, records]
  simp

theorem link_startTransmit_reply {g : TxFrame} {gs : List TxFrame} (records : (s.link l).records = [])
    (replies : (s.link l).replies = g :: gs) :
    (startTransmit l s).link l = { s.link l with replies := gs, sending := some (g, s.now) } := by
  rw [startTransmit_of_free free quiet runs, records, replies]
  simp

theorem link_startTransmit_ability (records : (s.link l).records = []) (replies : (s.link l).replies = [])
    (waits : (s.link l).abilityWaiting = true) : (startTransmit l s).link l = { s.link l with
      abilityWaiting := false, sending := some (⟨0x01, abilityPayload l s⟩, s.now) } := by
  rw [startTransmit_of_free free quiet runs, records, replies, if_pos waits]
  simp

theorem link_startTransmit_idle (records : (s.link l).records = []) (replies : (s.link l).replies = [])
    (waits : (s.link l).abilityWaiting = false) : (startTransmit l s).link l = s.link l := by
  rw [startTransmit_of_free free quiet runs, records, replies, if_neg (by simp [waits])]

end

/-! ### The end of a frame (R146, R150) -/

@[simp] theorem link_settle (k : Link) (s : State) : (settle s).link k = s.link k := link_of_links (by simp) k

/-- The state in which a link's line is free, at the instant at which its frame has been sent. -/
def lineFreed (l : Link) (t : Instant) (s : State) : State :=
  (advanceTo t s).setLink l { (advanceTo t s).link l with sending := none }

theorem exec_transmitEnd {l : Link} {f : TxFrame} {since : Instant} {s : State}
    (sending : (s.link l).sending = some (f, since)) : exec (.transmitEnd l) s =
      answer (afterTransmit l f (lineFreed l (addInterval since (frameTime s.seq.straps l f)) s)) := by
  show execTransmitEnd l s = _
  simp only [execTransmitEnd, sending]
  rfl

@[simp] theorem link_lineFreed (l : Link) (t : Instant) (s : State) :
    (lineFreed l t s).link l = { s.link l with sending := none } := by
  simp [lineFreed]

@[simp] theorem link_lineFreed_other (l : Link) (t : Instant) (s : State) :
    (lineFreed l t s).link (otherLink l) = s.link (otherLink l) := by
  simp [lineFreed]

theorem rest_lineFreed (l : Link) (t : Instant) (s : State) :
    (lineFreed l t s).seq = s.seq ∧ (lineFreed l t s).front = s.front ∧
      (lineFreed l t s).timing = { s.timing with timebase := laterOf t s.now } ∧
      (lineFreed l t s).store = s.store ∧ (lineFreed l t s).cache = s.cache ∧
      (lineFreed l t s).engine = s.engine ∧ (lineFreed l t s).auth = s.auth :=
  ⟨rfl, rfl, rfl, rfl, rfl, rfl, rfl⟩

theorem afterTransmit_of_other {l : Link} {f : TxFrame} {s : State}
    (up : ¬(f = ⟨0x16, [0]⟩ ∧ (s.link l).state = .up)) (idle : ¬(f = ⟨0x17, [0]⟩ ∧ s.seq.reinit = .replying l)) :
    afterTransmit l f s = startTransmit l s := by
  unfold afterTransmit
  rw [if_neg (by simpa [isBareOk] using idle), if_neg (by simpa [isBareOk] using up)]

/-- The ability word a link sends (R152, R187). -/
theorem abilityPayload_eq (l : Link) (s : State) :
    let level := if s.store.breathing = none then 0 else if s.store.shading = none then 1 else 2
    let sent := if (s.link l).state = .silent then level else (s.link l).latchedLevel.getD level
    abilityPayload l s = [BitVec.ofNat 8 sent, 1, (match l with | .body => 0 | .accessory => 1),
      if (s.link l).state = .acknowledge then 1 else 0] := by
  intro level sent
  have tables : maxRecordLevel s = level := by
    simp only [maxRecordLevel, level]
    cases s.store.breathing <;> cases s.store.shading <;> rfl
  simp only [abilityPayload, tables]
  cases l
  all_goals cases state : (s.link _).state <;> simp [sent, state, le8, leFlag, Config.revision]

/-! ### The bytes of a frame (R52, R146, R186) -/

theorem length_bytes (f : TxFrame) : f.bytes.length = f.payload.length + 5 := by
  simp [TxFrame.bytes]

/-- The check code read back from its two bytes. -/
theorem ofNat_field16_append {before : List Byte} {n : Nat} (length : before.length = n) (r : BitVec 16) :
    BitVec.ofNat 16 (field16 (before ++ le16 r.toNat) n) = r := by
  have low : byteAt (before ++ le16 r.toNat) n = r.toNat % 256 := by
    simp [byteAt, length, le16]
  have high : byteAt (before ++ le16 r.toNat) (n + 1) = r.toNat / 256 % 256 := by
    simp [byteAt, length, le16]
  have bound := r.isLt
  apply BitVec.eq_of_toNat_eq
  rw [field16, low, high, BitVec.toNat_ofNat]
  omega

/-- A parser takes the bytes of a frame for that frame. -/
theorem frameEffect_bytes {f : TxFrame} (short : f.payload.length ≤ 240) :
    frameEffect (f.bytes.drop 1) = .completes f.kind f.payload := by
  let checked := f.kind :: BitVec.ofNat 8 f.payload.length :: f.payload
  have after : f.bytes.drop 1 = checked ++ le16 (crc16 checked).toNat := by simp [TxFrame.bytes, checked]
  have count : checked.length = f.payload.length + 2 := by simp [checked]
  have length : byteAt (checked ++ le16 (crc16 checked).toNat) 1 = f.payload.length := by
    simp [byteAt, checked]; omega
  have agrees : crcAgrees (checked ++ le16 (crc16 checked).toNat) f.payload.length = true := by
    rw [crcAgrees, List.take_left' count, ofNat_field16_append count, beq_self_eq_true]
  rw [after, frameEffect_completes (by simp [count]) (by omega) (by simp [length, count]) (by rwa [length]), length]
  simp [checked]

theorem frameTime_eq (straps : Straps) (l : Link) (f : TxFrame) :
    frameTime straps l f = (roundDiv ((f.payload.length + 5) * 10 * 1000000) (match l with
      | .body => 1500000
      | .accessory => if straps.accessoryRate then 460800 else 230400)).toNat := by
  have bits : (((f.payload.length + 5) * 10000000 : Nat) : Int) = (f.payload.length + 5) * 10 * 1000000 := by
    push_cast
    ring
  rw [frameTime, length_bytes, bits]
  cases l <;> rfl

/-! ### Joining the reply list -/

/-- The state in which a reply has joined its link's list. -/
def replyAdded (l : Link) (f : TxFrame) (s : State) : State :=
  s.setLink l { s.link l with replies := (s.link l).replies ++ [f] }

theorem joinReply_eq (l : Link) (k : Byte) (p : List Byte) (s : State) :
    joinReply l k p s = { s with links := (joinReply l k p s).links } :=
  (startTransmit_eq l (replyAdded l ⟨k, p⟩ s)).symm

@[simp] theorem link_replyAdded (l : Link) (f : TxFrame) (s : State) :
    (replyAdded l f s).link l = { s.link l with replies := (s.link l).replies ++ [f] } := by
  simp [replyAdded]

/-- What a link is when a reply has joined its list and its transmitter has looked for work. -/
theorem link_joinReply_of_free {l : Link} {s : State} (f : TxFrame) (free : (s.link l).sending = none)
    (quiet : (s.link l).renegotiateDue = false) (runs : s.seq.reinit ≠ .due) :
    let u := (startTransmit l (replyAdded l f s)).link l
    (∀ g gs, (s.link l).records = g :: gs → u = { s.link l with
      records := gs, replies := (s.link l).replies ++ [f], sending := some (g, s.now) }) ∧
    (∀ g gs, (s.link l).records = [] → (s.link l).replies = g :: gs → u = { s.link l with
      replies := gs ++ [f], sending := some (g, s.now) }) ∧
    ((s.link l).records = [] → (s.link l).replies = [] → u = { s.link l with sending := some (f, s.now) }) := by
  intro u
  have free : ((replyAdded l f s).link l).sending = none := by simpa using free
  have quiet : ((replyAdded l f s).link l).renegotiateDue = false := by simpa using quiet
  refine ⟨fun g gs records => ?_, fun g gs records replies => ?_, fun records replies => ?_⟩
  · refine (link_startTransmit_record free quiet runs (g := g) (gs := gs) (by simpa using records)).trans ?_
    rw [link_replyAdded]
    rfl
  · refine (link_startTransmit_reply free quiet runs (g := g) (gs := gs ++ [f]) (by simpa using records)
      (by simp [replies])).trans ?_
    rw [link_replyAdded]
    rfl
  · refine (link_startTransmit_reply free quiet runs (g := f) (gs := []) (by simpa using records)
      (by simp [replies])).trans ?_
    rw [link_replyAdded, ← replies]
    rfl

/-- Settles O42: the transmitter's choice at the end of a frame and as a reply joins, the bytes it sends, and the
periodic report. -/
theorem transmittersSendInOrder : Obligations.TransmittersSendInOrder := by
  refine ⟨fun l f since s sending renegotiate reinit quiet runs => ?ends, fun l k p s => ?joins,
    fun l f since s sending => ⟨?bytes, frameTime_eq _ l f⟩, fun f short => ⟨rfl, frameEffect_bytes short⟩,
    fun due s armed up still => ?report⟩
  case ends =>
    have meaning := exec_transmitEnd sending
    generalize addInterval since (frameTime s.seq.straps l f) = t at *
    obtain ⟨seq, front, timing, store, cache, engine, auth⟩ := rest_lineFreed l t s
    have free : ((lineFreed l t s).link l).sending = none := by simp
    have quiet : ((lineFreed l t s).link l).renegotiateDue = false := by simpa using quiet
    have runs : (lineFreed l t s).seq.reinit ≠ .due := by rwa [seq]
    have now : (lineFreed l t s).now = laterOf t s.now := by rw [State.now, timing]
    rw [afterTransmit_of_other (by simpa using renegotiate) (by rwa [seq])] at meaning
    refine ⟨_, meaning, by simp [timing],
      by simp [link_startTransmit_other], fun g gs records => ?_, fun g gs records replies => ?_,
      fun records replies waits => ?_, fun records replies waits => ?_, ?_⟩
    · simp [link_startTransmit_record free quiet runs (by simpa using records), now]
    · simp [link_startTransmit_reply free quiet runs (by simpa using records) (by simpa using replies), now]
    · have ability := link_startTransmit_ability free quiet runs (by simpa using records) (by simpa using replies)
        (by simpa using waits)
      have word := abilityPayload_eq l (lineFreed l t s)
      rw [store, link_lineFreed] at word
      rw [link_settle, ability, word, now, link_lineFreed] <;> rfl
    · simp [link_startTransmit_idle free quiet runs (by simpa using records) (by simpa using replies)
        (by simpa using waits)]
    · simp [seq, front, store, cache, engine, auth]
  case joins =>
    intro f t
    refine ⟨joinReply_eq l k p s, (link_startTransmit_other l (replyAdded l f s)).trans ?_, fun busy => ?_,
      link_joinReply_of_free f⟩
    · simp [replyAdded]
    · have same : t = replyAdded l f s := startTransmit_of_busy (by simpa using busy)
      rw [same, link_replyAdded]
  case bytes =>
    simp [lineBytes, sending, TxFrame.bytes]
  case report =>
    have upward : accessoryUp s = true := by simpa [accessoryUp] using up
    show execPeriodicReportDue s = _
    simp only [execPeriodicReportDue, armed, upward, still]
    rfl

end Sys2Proof.Machine
end

section
/-! PROOF. The coming and going of UP (R153 to R157): what it leaves of a link, of authority and of the other link's
words. -/

namespace Sys2Proof.Machine

/-! ### PEER_LINK_CHANGED (R156, R157) -/

/-- A link's PEER_LINK_CHANGED bit. -/
def peerBit (l : Link) (s : State) : Bool := (pendingWord s l).getLsbD Event.peerLinkChanged.bit

theorem peerBit_of_events {s u : State} (events : u.events = s.events) (l : Link) : peerBit l u = peerBit l s := by
  simp only [peerBit, pendingWord, events]

theorem peerBit_raiseOn_other {l k : Link} {e : Event} (other : k ≠ l ∨ e ≠ .peerLinkChanged) (s : State) :
    peerBit l (raiseOn k e s) = peerBit l s := by
  cases words : s.events with
  | none => exact peerBit_of_events (by simp [events_raiseOn, words]) l
  | some w =>
    simp only [peerBit, pendingWord_of_latches (latches_raiseOn k e s) l (by simp [words])]
    have unset : (maskOn l k e).getLsbD Event.peerLinkChanged.bit = false := by
      unfold maskOn
      split
      case isTrue same =>
        have bits : e.bit ≠ Event.peerLinkChanged.bit := by
          rcases other with other | other
          · exact absurd same.symm other
          · cases e <;> simp_all [Event.bit]
        simpa [getLsbD_mask] using bits.symm
      case isFalse => simp
    cases l <;> simpa using fun set => absurd set (by simpa using unset)

theorem peerBit_raiseOn_same {l : Link} {s : State} (words : s.events.isSome = true) :
    peerBit l (raiseOn l .peerLinkChanged s) = true := by
  simp only [peerBit, pendingWord_of_latches (latches_raiseOn l .peerLinkChanged s) l words]
  cases l <;> simp [maskOn, getLsbD_mask]

theorem peerBit_raise {e : Event} (other : e ≠ .peerLinkChanged) (l : Link) (s : State) :
    peerBit l (raise e s) = peerBit l s := by
  rw [raise, peerBit_raiseOn_other (.inr other), peerBit_raiseOn_other (.inr other)]

theorem peerBit_raiseIf {e : Event} (other : e ≠ .peerLinkChanged) (b : Bool) (l : Link) (s : State) :
    peerBit l (raiseIf b e s) = peerBit l s := by
  cases b
  · rfl
  · exact peerBit_raise other l s

@[simp] theorem peerBit_settle (l : Link) (s : State) : peerBit l (settle s) = peerBit l s := by
  cases words : s.events with
  | none => exact peerBit_of_events (by simp [events_settle, words]) l
  | some w =>
    have level : (levelWord s).getLsbD Event.peerLinkChanged.bit = false := by
      simp only [levelWord, BitVec.getLsbD_or, getLsbD_maskOf]
      simp [Event.bit]
    rw [peerBit, pendingWord_settle words, BitVec.getLsbD_or, level, Bool.or_false]
    simp [peerBit, pendingWord, words]

@[simp] theorem peerBit_setHolder (h : Option Link) (c : Bool) (n : Nat) (l : Link) (s : State) :
    peerBit l (setHolder h c n s) = peerBit l s := peerBit_raiseIf (by decide) _ l _

@[simp] theorem peerBit_reevaluate (l : Link) (s : State) : peerBit l (reevaluate s) = peerBit l s := by
  have stopped : peerBit l (stopIfNeeded s) = peerBit l s := by
    unfold stopIfNeeded
    split
    · exact peerBit_raiseIf (by decide) _ l _
    · rfl
  have followed : peerBit l (followConfiguration (stopIfNeeded s)) = peerBit l (stopIfNeeded s) :=
    peerBit_of_events (by simp) l
  have started : peerBit l (reevaluate s) = peerBit l (followConfiguration (stopIfNeeded s)) :=
    peerBit_of_events (by simp [reevaluate]) l
  rw [started, followed, stopped]

@[simp] theorem peerBit_enterDetect (k : Link) (n : Nat) (w : Option MasterWord) (l : Link) (s : State) :
    peerBit l (enterDetect k n w s) = peerBit l s := peerBit_of_events (by simp) l

@[simp] theorem peerBit_enterSilent (k l : Link) (s : State) : peerBit l (enterSilent k s) = peerBit l s :=
  peerBit_of_events (by simp) l

@[simp] theorem isSome_events_raiseOn (l : Link) (e : Event) (s : State) :
    (raiseOn l e s).events.isSome = s.events.isSome := by simp [events_raiseOn]

@[simp] theorem isSome_events_dropUp (l : Link) (s : State) : (dropUp l s).events.isSome = s.events.isSome := by
  cases l <;> simp [dropUp]

/-- A departure from UP tells the other link alone. -/
theorem peerBit_dropUp {l : Link} {s : State} (words : s.events.isSome = true) :
    peerBit (otherLink l) (dropUp l s) = true ∧ peerBit l (dropUp l s) = peerBit l s := by
  have other : otherLink l ≠ l := by cases l <;> decide
  unfold dropUp
  refine ⟨peerBit_raiseOn_same ?_, (peerBit_raiseOn_other (.inl other) _).trans (peerBit_of_events ?_ l)⟩
  · cases l <;> simpa using words
  · cases l <;> simp

theorem peerTold_settle {l : Link} {s u : State}
    (told : s.events.isSome = true → peerBit (otherLink l) u = true ∧ peerBit l u = peerBit l s) :
    PeerTold l s (settle u) := fun words => by
  obtain ⟨other, same⟩ := told words
  exact ⟨(peerBit_settle _ u).trans other, (peerBit_settle l u).trans same⟩

/-! ### What a transmitter leaves of its link -/

/-- A link's unit apart from what waits to be sent and what is being sent. -/
def LinkUnit.exchange (u : LinkUnit) : LinkUnit :=
  { u with records := [], replies := [], abilityWaiting := false, sending := none }

theorem exchange_startTransmit (l : Link) (s : State) :
    ((startTransmit l s).link l).exchange = (s.link l).exchange := by
  simp only [startTransmit]
  repeat' split
  all_goals simp [LinkUnit.exchange]

theorem records_startTransmit {l : Link} {s : State} (none : (s.link l).records = []) :
    ((startTransmit l s).link l).records = [] := by
  simp only [startTransmit, none]
  repeat' split
  all_goals simp [none]

theorem replies_startTransmit {l : Link} {s : State} (none : (s.link l).replies = []) :
    ((startTransmit l s).link l).replies = [] := by
  simp only [startTransmit, none]
  repeat' split
  all_goals simp [none]

theorem exchange_abilitySend (l : Link) (t : Instant) (s : State) :
    ((abilitySend l t s).link l).exchange = { s.link l with sendDue := some t }.exchange := by
  rw [abilitySend, exchange_startTransmit, link_setLink_same]
  rfl

theorem exchange_enterDetect (l : Link) (n : Nat) (w : Option MasterWord) (s : State) :
    ((enterDetect l n w s).link l).exchange = { s.link l with
      state := .abilityDetect, matchCount := n, previousWord := w, acceptedWord := none,
      latchedLevel := some (maxRecordLevel s), timeout := some (addInterval s.now 100000),
      sendDue := some (addInterval s.now 2000) }.exchange := by
  rw [enterDetect, exchange_abilitySend, link_setLink_same]

theorem exchange_enterSilent (l : Link) (s : State) :
    ((enterSilent l s).link l).exchange = { s.link l with
      state := .silent, timeout := none, sendDue := some (addInterval s.now 10000) }.exchange := by
  rw [enterSilent, exchange_abilitySend, link_setLink_same]

theorem exchange_enterAcknowledge (l : Link) (w : MasterWord) (s : State) :
    ((enterAcknowledge l w s).link l).exchange = { s.link l with
      state := .acknowledge, matchCount := 3, acceptedWord := some w,
      timeout := some (addInterval s.now 100000), sendDue := some (addInterval s.now 2000) }.exchange := by
  rw [enterAcknowledge, exchange_abilitySend, link_setLink_same]

theorem empty_abilitySend {l : Link} {t : Instant} {s : State} (records : (s.link l).records = [])
    (replies : (s.link l).replies = []) :
    ((abilitySend l t s).link l).records = [] ∧ ((abilitySend l t s).link l).replies = [] :=
  ⟨records_startTransmit (by simpa using records), replies_startTransmit (by simpa using replies)⟩

theorem empty_enterDetect {l : Link} {n : Nat} {w : Option MasterWord} {s : State} (records : (s.link l).records = [])
    (replies : (s.link l).replies = []) :
    ((enterDetect l n w s).link l).records = [] ∧ ((enterDetect l n w s).link l).replies = [] :=
  empty_abilitySend (by simpa using records) (by simpa using replies)

theorem empty_enterSilent {l : Link} {s : State} (records : (s.link l).records = [])
    (replies : (s.link l).replies = []) :
    ((enterSilent l s).link l).records = [] ∧ ((enterSilent l s).link l).replies = [] :=
  empty_abilitySend (by simpa using records) (by simpa using replies)

theorem link_abilitySend_other (l : Link) (t : Instant) (s : State) :
    (abilitySend l t s).link (otherLink l) = s.link (otherLink l) := by
  simp [abilitySend, link_startTransmit_other]

theorem link_enterSilent_other (l : Link) (s : State) :
    (enterSilent l s).link (otherLink l) = s.link (otherLink l) := by
  simp [enterSilent, link_abilitySend_other]

@[simp] theorem now_startTransmit (l : Link) (s : State) : (startTransmit l s).now = s.now := by simp [State.now]

@[simp] theorem now_enterSilent (l : Link) (s : State) : (enterSilent l s).now = s.now := by simp [State.now]

@[simp] theorem now_enterDetect (l : Link) (n : Nat) (w : Option MasterWord) (s : State) :
    (enterDetect l n w s).now = s.now := by simp [State.now]

/-! ### Leaving UP (R157) -/

theorem link_dropUp_same (l : Link) (s : State) : (dropUp l s).link l = { s.link l with
    state := .silent, acceptedWord := none, recordLevel := none, records := [], replies := [], heldBack := [],
    renegotiateDue := false } := by
  cases l <;> simp [dropUp]

theorem link_dropUp_other (l : Link) (s : State) : (dropUp l s).link (otherLink l) = s.link (otherLink l) := by
  cases l <;> simp [dropUp]

theorem upWord_of_state {u : LinkUnit} (down : u.state ≠ .up) : upWord u = none := by
  unfold upWord
  split
  · next up => exact absurd up down
  all_goals rfl

/-- A link that has dropped does not hold authority, and there is no conflict (R161). -/
theorem resolveAuthority_dropUp (l : Link) (s : State) : ∃ h, h ≠ some l ∧
    resolveAuthority (dropUp l s) = setHolder h false s.auth.equalSeeds (dropUp l s) := by
  have seeds : (dropUp l s).auth.equalSeeds = s.auth.equalSeeds := by cases l <;> simp [dropUp]
  have down : upWord ((dropUp l s).link l) = none := upWord_of_state (by simp [link_dropUp_same])
  have alone : ∀ w : MasterWord, ∃ h, h ≠ some l ∧ resolveAlone (otherLink l) w = .holder h := by
    intro w
    cases claim : w.claim
    · exact ⟨none, nofun, resolveAlone_of_declines claim _⟩
    all_goals exact ⟨some (otherLink l), by cases l <;> decide, resolveAlone_of_claims (by simp [claim]) _⟩
  have outcome : ∃ h, h ≠ some l ∧
      resolution (upWord ((dropUp l s).link .body)) (upWord ((dropUp l s).link .accessory)) = .holder h := by
    cases l with
    | body =>
      rw [down]
      cases upWord ((dropUp .body s).link .accessory) with
      | none => exact ⟨none, nofun, rfl⟩
      | some w => exact alone w
    | accessory =>
      rw [down]
      cases upWord ((dropUp .accessory s).link .body) with
      | none => exact ⟨none, nofun, rfl⟩
      | some w => exact alone w
  obtain ⟨h, other, outcome⟩ := outcome
  refine ⟨h, other, ?_⟩
  rw [resolveAuthority_of_holder outcome, seeds]
  cases l <;> simp [down]

/-- What a link's departure from UP leaves, its own unit apart. -/
structure LeftUp (l : Link) (s u : State) : Prop where
  link : u.link l = { s.link l with
    state := .silent, acceptedWord := none, recordLevel := none, records := [], replies := [], heldBack := [],
    renegotiateDue := false }
  other : u.link (otherLink l) = s.link (otherLink l)
  now : u.now = s.now
  level : maxRecordLevel u = maxRecordLevel s
  holder : u.auth.holder ≠ some l
  conflict : u.auth.conflict = false
  kept : u.auth.marks = s.auth.marks ∧ u.auth.anchor = s.auth.anchor
  told : s.events.isSome = true → peerBit (otherLink l) u = true ∧ peerBit l u = peerBit l s

theorem leftUp_leaveUp (l : Link) (s : State) : LeftUp l s (leaveUp l s) := by
  obtain ⟨h, other, resolved⟩ := resolveAuthority_dropUp l s
  have does : leaveUp l s = reevaluate (setHolder h false s.auth.equalSeeds (dropUp l s)) := by rw [leaveUp, resolved]
  rw [does]
  exact
    { link := by simp [link_dropUp_same]
      other := by simp [link_dropUp_other]
      now := (now_reevaluate _).trans (by cases l <;> simp [State.now, dropUp])
      level := by cases l <;> simp [maxRecordLevel, dropUp]
      holder := by simpa using other
      conflict := by simp
      kept := by cases l <;> simp [dropUp]
      told := fun words => by simpa using peerBit_dropUp words }

/-! ### The restart of RENEGOTIATE and the exchange's timers -/

theorem afterTransmit_of_renegotiate {l : Link} {s : State} (up : (s.link l).state = .up) :
    afterTransmit l ⟨0x16, [0]⟩ s = s.setLink l { s.link l with renegotiateDue := true } := by
  unfold afterTransmit
  rw [if_neg (by simp [isBareOk]), if_pos (by simp [isBareOk, up])]

theorem exec_renegotiateLinkRestart {l : Link} {s : State} (due : (s.link l).renegotiateDue = true) :
    exec (.renegotiateLinkRestart l) s = answer (enterDetect l 0 none (leaveUp l s)) := by
  show execRenegotiateLinkRestart l s = _
  simp only [execRenegotiateLinkRestart, due, if_true]

/-- Settles O43: the reply, its end, and the restart as a departure from UP into ABILITY_DETECT. -/
theorem renegotiateRestartsItsLink : Obligations.RenegotiateRestartsItsLink := by
  refine ⟨fun l t s serves => congrArg answer (takeRequest_lengthOnly serves t 0x16 _),
    fun l since s sending up => ?ends, fun l s due => ?restarts⟩
  case ends =>
    have meaning := exec_transmitEnd sending
    generalize addInterval since (frameTime s.seq.straps l ⟨0x16, [0]⟩) = t at *
    obtain ⟨seq, -, -, -, -, -, auth⟩ := rest_lineFreed l t s
    rw [afterTransmit_of_renegotiate (by simpa using up)] at meaning
    exact ⟨_, meaning, by simp, by simp, by simp [seq], by simp [auth]⟩
  case restarts =>
    have left := leftUp_leaveUp l s
    have entered := exchange_enterDetect l 0 none (leaveUp l s)
    rw [left.level, left.now, left.link] at entered
    obtain ⟨-, replies⟩ := empty_enterDetect (n := 0) (w := none) (s := leaveUp l s) (l := l) (by simp [left.link])
      (by simp [left.link])
    refine ⟨_, exec_renegotiateLinkRestart due, ?_⟩
    simp only [link_settle]
    refine ⟨congrArg LinkUnit.state entered, congrArg LinkUnit.matchCount entered,
      congrArg LinkUnit.previousWord entered,
      congrArg LinkUnit.acceptedWord entered, replies, congrArg LinkUnit.renegotiateDue entered,
      congrArg LinkUnit.latchedLevel entered, congrArg LinkUnit.timeout entered, ?_, peerTold_settle fun words => ?_⟩
    · simpa using left.holder
    · simpa using left.told words

theorem runs_followConfiguration (s : State) :
    (followConfiguration s).engine.state.runs = s.engine.state.runs := by
  unfold followConfiguration
  split
  case h_1 state =>
    rw [state]
    split
    · rfl
    · rw [state]
  case h_2 state =>
    rw [state]
    split
    · rw [state]
    · rfl
  all_goals rfl

theorem stream_of_clock {s u : State} (clock : u.timing.clock = s.timing.clock) :
    u.timing.stream = s.timing.stream := by
  have same : u.timing.clock.stream = s.timing.clock.stream := by rw [clock]
  exact same

/-- An engine that may not run does not (R127). -/
theorem runs_reevaluate_of_not {s : State} (may : ∀ u : State, u.timing.stream = s.timing.stream →
    u.link = s.link → mayRun u = false) : (reevaluate s).engine.state.runs = false := by
  have stopped : (stopIfNeeded s).engine.state.runs = false := by
    unfold stopIfNeeded
    split
    case isTrue => rw [state_leaveRunning]; rfl
    case isFalse stays => simpa [may s rfl rfl] using stays
  have stream : (followConfiguration (stopIfNeeded s)).timing.stream = s.timing.stream := by
    have clock := (clock_followConfiguration (stopIfNeeded s)).trans (clock_stopIfNeeded s)
    exact stream_of_clock clock
  have still := may _ stream (funext fun k => link_of_links (by simp) k)
  rw [reevaluate, startIfReady, still, Bool.and_false, Bool.false_and, if_neg Bool.false_ne_true,
    runs_followConfiguration, stopped]

theorem runs_reevaluate_of_down {s : State} (down : (s.link .body).state ≠ .up) :
    (reevaluate s).engine.state.runs = false :=
  runs_reevaluate_of_not fun u _ links => by simp [mayRun, bodyUp, links, down]

theorem exec_abilitySendDue {l : Link} {due : Instant} {s : State} (armed : (s.link l).sendDue = some due) :
    exec (.abilitySendDue l) s =
      answer (abilitySend l (addInterval due (abilityInterval (s.link l).state)) (advanceTo due s)) := by
  show execAbilitySendDue l s = _
  simp only [execAbilitySendDue, armed]

theorem exec_abilityTimeout {l : Link} {due : Instant} {s : State} (armed : (s.link l).timeout = some due) :
    ((s.link l).state = .abilityDetect →
      exec (.abilityTimeout l) s = answer (detectTimeout l (advanceTo due s))) ∧
    ((s.link l).state = .acknowledge →
      exec (.abilityTimeout l) s = answer (acknowledgeTimeout l (advanceTo due s))) := by
  refine ⟨fun state => ?_, fun state => ?_⟩
  all_goals
    show execAbilityTimeout l s = _
    simp only [execAbilityTimeout, state, armed]

theorem exec_linkUpTimeout {l : Link} {due : Instant} {s : State} (up : (s.link l).state = .up)
    (armed : (s.link l).timeout = some due) :
    exec (.linkUpTimeout l) s = answer (enterSilent l (leaveUp l (advanceTo due s))) := by
  show execLinkUpTimeout l s = _
  simp only [execLinkUpTimeout, up, armed]

theorem abilityInterval_eq (x : LinkState) : abilityInterval x = if x = .silent then 10000 else 2000 := by
  cases x <;> rfl

/-- Settles O41: the send that comes due, the two timeouts of the exchange, and the one that ends UP. -/
theorem linkTimersExpire : Obligations.LinkTimersExpire := by
  intro l due s n
  refine ⟨fun armed => ?send, fun exchanging armed => ?exchange, fun up armed => ?up⟩
  case send =>
    have sent := exchange_abilitySend l (addInterval due (abilityInterval (s.link l).state)) (advanceTo due s)
    refine ⟨_, exec_abilitySendDue armed, by simp [State.now, n], by simp, ?_, by simp [link_abilitySend_other],
      by simp,
      by simp, by simp⟩
    rw [link_settle, ← abilityInterval_eq]
    exact congrArg LinkUnit.sendDue sent
  case exchange =>
    obtain ⟨detect, acknowledge⟩ := exec_abilityTimeout armed
    rcases exchanging with state | state
    · have entered := exchange_enterSilent l ((advanceTo due s).setLink l
        { (advanceTo due s).link l with matchCount := 0, previousWord := none })
      rw [link_setLink_same] at entered
      refine ⟨_, detect state, by simp [detectTimeout, n], ?_⟩
      simp only [link_settle]
      refine ⟨congrArg LinkUnit.state entered, congrArg LinkUnit.timeout entered, congrArg LinkUnit.sendDue entered,
        fun _ => ⟨congrArg LinkUnit.matchCount entered, congrArg LinkUnit.previousWord entered⟩,
        fun other => absurd (state.symm.trans other) nofun, ?_⟩
      simp [detectTimeout, link_enterSilent_other]
    · have entered := exchange_enterSilent l ((advanceTo due s).setLink l
        { (advanceTo due s).link l with acceptedWord := none })
      rw [link_setLink_same] at entered
      refine ⟨_, acknowledge state, by simp [acknowledgeTimeout, n], ?_⟩
      simp only [link_settle]
      refine ⟨congrArg LinkUnit.state entered, congrArg LinkUnit.timeout entered, congrArg LinkUnit.sendDue entered,
        fun other => absurd (state.symm.trans other) nofun, fun _ => congrArg LinkUnit.acceptedWord entered, ?_⟩
      simp [acknowledgeTimeout, link_enterSilent_other]
  case up =>
    have left := leftUp_leaveUp l (advanceTo due s)
    have entered := exchange_enterSilent l (leaveUp l (advanceTo due s))
    obtain ⟨records, replies⟩ := empty_enterSilent (s := leaveUp l (advanceTo due s)) (l := l) (by simp [left.link])
      (by simp [left.link])
    rw [left.now, left.link] at entered
    obtain ⟨marks, anchor⟩ := left.kept
    refine ⟨_, exec_linkUpTimeout up armed, by simp [left.now, n], ?_⟩
    simp only [link_settle]
    refine ⟨congrArg LinkUnit.state entered, replies, records, congrArg LinkUnit.acceptedWord entered,
      congrArg LinkUnit.sendDue entered, by simpa using left.holder, by simpa using left.conflict,
      peerTold_settle fun words => ?_, fun body => ?_, by simpa using marks,
      by simpa using anchor⟩
    · have told := left.told words
      rw [peerBit_of_events (show (advanceTo due s).events = s.events from rfl)] at told
      simpa using told
    subst body
    have down : ((resolveAuthority (dropUp .body (advanceTo due s))).link .body).state ≠ .up := fun up => by
      simpa [state_dropUp] using up_of_resolveAuthority up
    simpa [leaveUp] using runs_reevaluate_of_down down

end Sys2Proof.Machine
end

section
/-! PROOF. REINITIALIZE and its restart (R195, R196). -/

namespace Sys2Proof.Machine

theorem reinitializeChecks_pass {l : Link} {s : State} (may : MayCommand l s) (idle : s.store.op = none) :
    refusalOf (reinitializeChecks [] s) l s = none := by
  simp [refusalOf, reinitializeChecks, lengthOnly, authorityRefusal_of_mayCommand may, idle]

theorem afterTransmit_of_reinitialize {l : Link} {s : State} (replying : s.seq.reinit = .replying l) :
    afterTransmit l ⟨0x17, [0]⟩ s = s.setSeq { s.seq with reinit := .due } := by
  unfold afterTransmit
  rw [if_pos (by simp [isBareOk, replying])]

theorem exec_reinitializeRestart {s : State} (due : s.seq.reinit = .due) :
    exec .reinitializeRestart s = answer (reinitialized s) := by
  show execReinitializeRestart s = _
  simp only [execReinitializeRestart, due, if_true]

/-- After REINITIALIZE the level conditions are the missing tables and a fail mask that is kept. -/
theorem levelWord_reinitialized (s : State) :
    levelWord (reinitialized s) = Event.mask .tableMissing ||| maskIf (s.seq.failMask != 0) .selfTestFail := by
  have quiet : (reinitialized s).axisLost = false := axisLost_of_reset rfl
  have missing : (reinitialized s).tableMissing = true := rfl
  have peace : (reinitialized s).auth.conflict = false := rfl
  have failed : (reinitialized s).selfTestFailed = (s.seq.failMask != 0) := rfl
  simp only [levelWord, quiet, missing, peace, failed, maskIf]
  simp

/-- Settles O44: the request, the end of its reply, and the restart with every volatile block reset. -/
theorem reinitializeRuns : Obligations.ReinitializeRuns := by
  refine ⟨⟨fun l t s serves may idle => congrArg answer (takeRequest_carriedOut serves
    (reinitializeChecks_pass may idle) 0x17 _), fun l since s sending replying => ?ends⟩, fun s due => ?restarts⟩
  case ends =>
    have meaning := exec_transmitEnd sending
    generalize addInterval since (frameTime s.seq.straps l ⟨0x17, [0]⟩) = t at *
    obtain ⟨seq, -⟩ := rest_lineFreed l t s
    rw [afterTransmit_of_reinitialize (by rwa [seq])] at meaning
    exact ⟨_, meaning, by simp [seq], by simp, by simp⟩
  case restarts =>
    have words : (reinitialized s).events = eventsReset := rfl
    refine ⟨_, exec_reinitializeRestart due, ?_⟩
    simp only [settle_frame, link_settle]
    refine ⟨rfl, rfl, rfl, rfl, rfl, rfl, fun l => by cases l <;> rfl, rfl, fun l => ⟨?_, ?_⟩⟩
    · rw [enableWord_settle words]
      cases l <;> rfl
    · rw [pendingWord_settle words, levelWord_reinitialized]
      cases l <;> simp [PerLink.get]

end Sys2Proof.Machine
end

section
/-! PROOF. The exchange of ability words (R148, R151 to R156, R161 to R164). -/

namespace Sys2Proof.Machine

/-! ### A good ABILITY frame -/

theorem auth_settle (s : State) : (settle s).auth = s.auth := by simp

@[simp] theorem link_frameEnds (l : Link) (t : Instant) (s : State) :
    (frameEnds l t s).link l = { s.link l with parser := .hunting } := by
  simp [frameEnds]

@[simp] theorem link_frameEnds_other (l : Link) (t : Instant) (s : State) :
    (frameEnds l t s).link (otherLink l) = s.link (otherLink l) := by
  simp [frameEnds]

theorem rest_frameEnds (l : Link) (t : Instant) (s : State) :
    (frameEnds l t s).auth = s.auth ∧ (frameEnds l t s).engine = s.engine ∧ (frameEnds l t s).events = s.events ∧
      maxRecordLevel (frameEnds l t s) = maxRecordLevel s ∧ (frameEnds l t s).now = laterOf t s.now :=
  ⟨rfl, rfl, rfl, rfl, rfl⟩

theorem exec_ability_invalid {l : Link} {p : List Byte} {s : State} (started : s.started = true)
    (invalid : masterWord p = none) (t : Instant) :
    exec (.ability l t p) s = answer (rejectWord l (frameEnds l t s)) := by
  refine congrArg answer ?_
  have started' : (frameEnds l t s).started = true := started
  simp only [takeAbility, isHeld_of_started started, started', invalid]
  rfl

theorem exec_ability_valid {l : Link} {p : List Byte} {w : MasterWord} {s : State} (started : s.started = true)
    (valid : masterWord p = some w) (t : Instant) :
    exec (.ability l t p) s = answer (receiveWord l w (frameEnds l t s)) := by
  refine congrArg answer ?_
  have started' : (frameEnds l t s).started = true := started
  simp only [takeAbility, isHeld_of_started started, started', valid]
  rfl

section

variable {l : Link} {w : MasterWord} {b : State}

theorem receiveWord_of_silent (state : (b.link l).state = .silent) :
    receiveWord l w b = enterDetect l 1 (some w) b := by
  simp only [receiveWord, state]

theorem receiveWord_of_detect (state : (b.link l).state = .abilityDetect) : receiveWord l w b = countWord l w b := by
  simp only [receiveWord, state]

theorem receiveWord_of_acknowledge (state : (b.link l).state = .acknowledge) :
    receiveWord l w b = settleWord l w b := by
  simp only [receiveWord, state]

theorem receiveWord_of_up (state : (b.link l).state = .up) :
    receiveWord l w b = enterDetect l 1 (some w) (leaveUp l b) := by
  simp only [receiveWord, state]

theorem countWord_of_repeated {v : MasterWord} (previous : (b.link l).previousWord = some v)
    (same : sameWord v w = true) : countWord l w b =
      if 3 ≤ (b.link l).matchCount + 1 then enterAcknowledge l w b
      else b.setLink l { b.link l with
        matchCount := (b.link l).matchCount + 1, timeout := some (addInterval b.now 100000) } := by
  simp only [countWord, previous, Option.map_some, same, Option.getD_some, if_true]

theorem countWord_of_new (other : ∀ v, (b.link l).previousWord = some v → sameWord v w = false) :
    countWord l w b = b.setLink l { b.link l with
      matchCount := 1, previousWord := some w, timeout := some (addInterval b.now 100000) } := by
  have fresh : ((b.link l).previousWord.map fun v => sameWord v w).getD false = false := by
    cases previous : (b.link l).previousWord with
    | none => rfl
    | some v => exact other v previous
  simp only [countWord, fresh]
  rfl

theorem settleWord_of_same {v : MasterWord} (accepted : (b.link l).acceptedWord = some v)
    (same : sameWord v w = true) : settleWord l w b = if w.acknowledge then enterUp l b
      else b.setLink l { b.link l with timeout := some (addInterval b.now 100000) } := by
  simp only [settleWord, accepted, Option.map_some, same, Option.getD_some, if_true]

theorem settleWord_of_other {v : MasterWord} (accepted : (b.link l).acceptedWord = some v)
    (other : sameWord v w = false) : settleWord l w b = enterDetect l 1 (some w) b := by
  simp only [settleWord, accepted, Option.map_some, other, Option.getD_some]
  rfl

end

/-! ### Entering UP (R156) -/

/-- A link's unit as it enters UP. -/
def enteredUp (l : Link) (s : State) : LinkUnit :=
  { s.link l with
    state := .up, sendDue := none, abilityWaiting := false, timeout := some (addInterval s.now 250000),
    recordLevel := fixedLevel l (s.link l) }

/-- The state in which a link has entered UP, before authority is resolved. -/
def upEntered (l : Link) (s : State) : State :=
  raiseOn (otherLink l) .peerLinkChanged (s.setLink l (enteredUp l s))

@[simp] theorem link_upEntered (l : Link) (s : State) : (upEntered l s).link l = enteredUp l s := by simp [upEntered]

@[simp] theorem link_upEntered_other (l : Link) (s : State) :
    (upEntered l s).link (otherLink l) = s.link (otherLink l) := by
  simp [upEntered]

@[simp] theorem auth_upEntered (l : Link) (s : State) : (upEntered l s).auth = s.auth := by simp [upEntered]

theorem peerBit_upEntered {l : Link} {s : State} (words : s.events.isSome = true) :
    peerBit (otherLink l) (upEntered l s) = true ∧ peerBit l (upEntered l s) = peerBit l s := by
  have other : otherLink l ≠ l := by cases l <;> decide
  exact ⟨peerBit_raiseOn_same words, peerBit_raiseOn_other (.inl other) _⟩

/-- What follows a resolution as a link enters UP: the engine, or the interval of reports. -/
def afterEntry (l : Link) (s : State) : State :=
  match l with
  | .body => reevaluate s
  | .accessory => startReports s

theorem enterUp_eq (l : Link) (s : State) : enterUp l s = afterEntry l (resolveAuthority (upEntered l s)) := by
  cases l <;> rfl

@[simp] theorem afterEntry_frame (l : Link) (s : State) :
    (afterEntry l s).auth = s.auth ∧ (afterEntry l s).links = s.links := by
  cases l <;> simp [afterEntry]

@[simp] theorem link_afterEntry (l k : Link) (s : State) : (afterEntry l s).link k = s.link k :=
  link_of_links (by simp) k

@[simp] theorem peerBit_afterEntry (l k : Link) (s : State) : peerBit k (afterEntry l s) = peerBit k s := by
  cases l
  · exact peerBit_reevaluate k s
  · exact peerBit_of_events (by simp [afterEntry]) k

theorem upWord_enteredUp (l : Link) (s : State) : upWord (enteredUp l s) = (s.link l).acceptedWord := rfl

/-- What entering UP leaves when the resolution names a holder, none, or a conflict that leaves the links UP. -/
theorem enterUp_of_resolved {l : Link} {s : State} {h : Option Link} {c : Bool} {n : Nat}
    (resolved : resolveAuthority (upEntered l s) = setHolder h c n (upEntered l s)) :
    (enterUp l s).link l = enteredUp l s ∧ (enterUp l s).link (otherLink l) = s.link (otherLink l) ∧
      (enterUp l s).auth = { s.auth with holder := h, conflict := c, equalSeeds := n } ∧
      PeerTold l s (settle (enterUp l s)) := by
  rw [enterUp_eq, resolved]
  exact ⟨by simp, by simp, by simp, peerTold_settle fun words => by simpa using peerBit_upEntered words⟩

/-- A link's word where it claims or declines authority alone (R161). -/
theorem resolveAlone_eq (l : Link) (v : MasterWord) :
    resolveAlone l v = .holder (if v.claim = .decline then none else some l) := by
  by_cases declines : v.claim = .decline
  · rw [resolveAlone_of_declines declines, if_pos declines]
  · rw [resolveAlone_of_claims declines, if_neg declines]

section

variable {l : Link} {s : State} {v v' : MasterWord}

theorem resolveAuthority_upEntered_alone (accepted : (s.link l).acceptedWord = some v)
    (alone : (s.link (otherLink l)).state ≠ .up) : resolveAuthority (upEntered l s) =
      setHolder (if v.claim = .decline then none else some l) false s.auth.equalSeeds (upEntered l s) := by
  have mine : upWord ((upEntered l s).link l) = some v := by rw [link_upEntered, upWord_enteredUp, accepted]
  have other : upWord ((upEntered l s).link (otherLink l)) = none := by
    rw [link_upEntered_other, upWord_of_state alone]
  have outcome : resolution (upWord ((upEntered l s).link .body)) (upWord ((upEntered l s).link .accessory)) =
      .holder (if v.claim = .decline then none else some l) := by
    rw [← resolveAlone_eq]
    cases l
    · rw [mine, show upWord ((upEntered .body s).link .accessory) = none from other]
      rfl
    · rw [mine, show upWord ((upEntered .accessory s).link .body) = none from other]
      rfl
  rw [resolveAuthority_of_holder outcome]
  cases l
  · rw [show upWord ((upEntered .body s).link .accessory) = none from other]
    simp
  · rw [show upWord ((upEntered .accessory s).link .body) = none from other]
    simp

/-- The outcome of two links that are UP, the entering one first. -/
def resolveEntering (l : Link) (v v' : MasterWord) : Resolution :=
  match l with
  | .body => resolveBoth v v'
  | .accessory => resolveBoth v' v

theorem resolution_upEntered_both (accepted : (s.link l).acceptedWord = some v)
    (up : (s.link (otherLink l)).state = .up) (others : (s.link (otherLink l)).acceptedWord = some v') :
    resolution (upWord ((upEntered l s).link .body)) (upWord ((upEntered l s).link .accessory)) =
      resolveEntering l v v' ∧
    (upWord ((upEntered l s).link .body)).isSome = true ∧ (upWord ((upEntered l s).link .accessory)).isSome = true := by
  have mine : upWord ((upEntered l s).link l) = some v := by rw [link_upEntered, upWord_enteredUp, accepted]
  have other : upWord ((upEntered l s).link (otherLink l)) = some v' := by
    rw [link_upEntered_other, upWord, up]
    exact others
  cases l
  · rw [mine, show upWord ((upEntered .body s).link .accessory) = some v' from other]
    exact ⟨rfl, rfl, rfl⟩
  · rw [mine, show upWord ((upEntered .accessory s).link .body) = some v' from other]
    exact ⟨rfl, rfl, rfl⟩

end

/-! ### The equal-seed restart (R162) -/

theorem equalSeedRestart_links (n : Nat) (s : State) (k : Link) :
    ((equalSeedRestart n s).link k).state = .abilityDetect ∧ ((equalSeedRestart n s).link k).matchCount = 0 ∧
      ((equalSeedRestart n s).link k).previousWord = none := by
  unfold equalSeedRestart
  cases k with
  | accessory =>
    have entered := exchange_enterDetect .accessory 0 none (enterDetect .body 0 none
      (reevaluate (setHolder none false n (dropUp .accessory (dropUp .body s)))))
    exact ⟨congrArg LinkUnit.state entered, congrArg LinkUnit.matchCount entered,
      congrArg LinkUnit.previousWord entered⟩
  | body =>
    have entered := exchange_enterDetect .body 0 none
      (reevaluate (setHolder none false n (dropUp .accessory (dropUp .body s))))
    rw [show Link.body = otherLink .accessory from rfl, link_enterDetect_other]
    exact ⟨congrArg LinkUnit.state entered, congrArg LinkUnit.matchCount entered,
      congrArg LinkUnit.previousWord entered⟩

/-- An equal-seed restart tells both links (R157, R162). -/
theorem peerBit_equalSeedRestart (n : Nat) (k : Link) {s : State} (words : s.events.isSome = true) :
    peerBit k (equalSeedRestart n s) = true := by
  obtain ⟨accessory, -⟩ := peerBit_dropUp (l := .body) words
  obtain ⟨body, same⟩ := peerBit_dropUp (l := .accessory) (s := dropUp .body s) (by simpa using words)
  cases k
  · have body : peerBit .body (dropUp .accessory (dropUp .body s)) = true := body
    simpa [equalSeedRestart] using body
  · simpa [equalSeedRestart] using same.trans accessory

/-! ### The obligation -/

/-- What entering UP beside a link that is UP leaves, for each outcome of the resolution (R161 to R163). -/
theorem enterUp_beside {l : Link} {s : State} {v v' : MasterWord} (accepted : (s.link l).acceptedWord = some v)
    (up : (s.link (otherLink l)).state = .up) (others : (s.link (otherLink l)).acceptedWord = some v') :
    let r := resolveEntering l v v'
    let u := settle (enterUp l s)
    (r ≠ .equalSeeds ∨ 6 ≤ s.auth.equalSeeds → (u.link l).state = .up ∧ (u.link (otherLink l)).state = .up ∧
      PeerTold l s u) ∧
    (∀ h, r = .holder h → u.auth.holder = h ∧ u.auth.conflict = false ∧ u.auth.equalSeeds = 0) ∧
    (r = .conflict → u.auth.holder = none ∧ u.auth.conflict = true ∧ u.auth.equalSeeds = s.auth.equalSeeds) ∧
    (r = .equalSeeds → 6 ≤ s.auth.equalSeeds → u.auth.holder = none ∧ u.auth.conflict = true) ∧
    (r = .equalSeeds → s.auth.equalSeeds < 6 →
      u.auth.holder = none ∧ u.auth.conflict = false ∧ u.auth.equalSeeds = s.auth.equalSeeds + 1 ∧
      ∀ k, (u.link k).state = .abilityDetect ∧ (u.link k).matchCount = 0 ∧ (u.link k).previousWord = none ∧
        (s.events.isSome = true → peerBit k u = true)) := by
  intro r u
  obtain ⟨resolved, body, accessory⟩ := resolution_upEntered_both accepted up others
  have stays {h : Option Link} {c : Bool} {n : Nat}
      (outcome : resolveAuthority (upEntered l s) = setHolder h c n (upEntered l s)) :
      ((u.link l).state = .up ∧ (u.link (otherLink l)).state = .up ∧ PeerTold l s u) ∧
        u.auth = { s.auth with holder := h, conflict := c, equalSeeds := n } := by
    obtain ⟨link, other, auth, tells⟩ := enterUp_of_resolved outcome
    exact ⟨⟨by simp [u, link, enteredUp], by simp [u, other, up], tells⟩, by simp [u, auth]⟩
  cases outcome : r with
  | holder h =>
    obtain ⟨links, auth⟩ := stays (h := h) (c := false) (n := 0) (by
      rw [resolveAuthority_of_holder (resolved.trans outcome), body, accessory]
      rfl)
    exact ⟨fun _ => links, fun k same => by cases same; simp [auth], nofun, nofun, nofun⟩
  | conflict =>
    obtain ⟨links, auth⟩ := stays (h := none) (c := true) (n := s.auth.equalSeeds) (by
      rw [resolveAuthority_of_conflict (resolved.trans outcome), auth_upEntered])
    exact ⟨fun _ => links, nofun, fun _ => by simp [auth], nofun, nofun⟩
  | equalSeeds =>
    have restart := resolveAuthority_of_equalSeeds (resolved.trans outcome)
    rw [auth_upEntered] at restart
    by_cases few : s.auth.equalSeeds + 1 < 7
    · rw [if_pos few] at restart
      have does : u = settle (afterEntry l (equalSeedRestart (s.auth.equalSeeds + 1) (upEntered l s))) := by
        rw [← restart, ← enterUp_eq]
      refine ⟨fun stays => ?_, nofun, nofun, fun _ many => by omega, fun _ _ => ?_⟩
      · rcases stays with other | many
        · exact absurd rfl other
        · omega
      · rw [does]
        refine ⟨by simp, by simp, by simp, fun k => ?_⟩
        obtain ⟨state, count, previous⟩ := equalSeedRestart_links (s.auth.equalSeeds + 1) (upEntered l s) k
        refine ⟨by simpa using state, by simpa using count, by simpa using previous, fun words => ?_⟩
        simpa using peerBit_equalSeedRestart _ k (s := upEntered l s) (by simpa [upEntered] using words)
    · rw [if_neg few] at restart
      obtain ⟨links, auth⟩ := stays restart
      exact ⟨fun _ => links, nofun, nofun, fun _ _ => by simp [auth], fun _ less => by omega⟩

/-- Settles O40: an invalid word is rejected, and a valid one moves its link by the link's state. -/
theorem abilityWordMovesTheLink : Obligations.AbilityWordMovesTheLink := by
  intro l t p s started n
  obtain ⟨auth, engine, events, level, now⟩ := rest_frameEnds l t s
  have told {u : State} (told : PeerTold l (frameEnds l t s) u) : PeerTold l s u := by
    intro words
    exact told words
  refine ⟨fun invalid => ?invalid, fun w valid => ?valid⟩
  case invalid =>
    refine ⟨_, exec_ability_invalid started invalid t, ?_⟩
    have latches : Latches (maskOn .body l .frameRejected) (maskOn .accessory l .frameRejected) s
        (rejectWord l (frameEnds l t s)) := by
      refine (latches_raiseOn l .frameRejected _).same_before ?_
      split <;> exact events
    refine ⟨?_, latches.settle, ?_, ?_, ?_⟩
    all_goals simp only [link_settle, settle_frame, rejectWord, link_raiseOn, raiseOn_frame]
    · split <;> simp [rearmUp]
    · split <;> simp [rearmUp]
    · split <;> rfl
    · split <;> simp [rearmUp]
  case valid =>
    have meaning := exec_ability_valid (l := l) started valid t
    refine ⟨fun state => ?silent, fun v state previous same => ?repeated, fun state other => ?fresh,
      fun v state accepted same early => ?waits, fun v state accepted same ready alone => ?alone,
      fun v v' state accepted same ready up others => ?both, fun v state accepted other => ?changed, fun state => ?up⟩
    case silent =>
      have entered := exchange_enterDetect l 1 (some w) (frameEnds l t s)
      rw [receiveWord_of_silent (by simpa using state)] at meaning
      rw [level, now] at entered
      refine ⟨_, meaning, ?_⟩
      rw [link_settle]
      exact ⟨congrArg LinkUnit.state entered, congrArg LinkUnit.matchCount entered,
        congrArg LinkUnit.previousWord entered, congrArg LinkUnit.acceptedWord entered,
        congrArg LinkUnit.latchedLevel entered, congrArg LinkUnit.timeout entered, congrArg LinkUnit.sendDue entered⟩
    case repeated =>
      rw [receiveWord_of_detect (by simpa using state), countWord_of_repeated (by simpa using previous) same] at meaning
      refine ⟨_, meaning, ?_⟩
      rw [link_settle]
      by_cases third : 3 ≤ ((frameEnds l t s).link l).matchCount + 1
      · rw [if_pos third]
        rw [link_frameEnds] at third
        have entered := exchange_enterAcknowledge l w (frameEnds l t s)
        have third : 3 ≤ (s.link l).matchCount + 1 := third
        exact ⟨(congrArg LinkUnit.matchCount entered).trans (show 3 = min 3 ((s.link l).matchCount + 1) by omega),
          (congrArg LinkUnit.timeout entered).trans (by rw [now]; rfl), fun early => by omega,
          fun _ => ⟨congrArg LinkUnit.state entered, congrArg LinkUnit.acceptedWord entered⟩⟩
      · rw [if_neg third, link_setLink_same, link_frameEnds]
        rw [link_frameEnds] at third
        have early : ¬ 3 ≤ (s.link l).matchCount + 1 := third
        exact ⟨by simp; omega, by rw [now], fun _ => state, fun third => absurd third early⟩
    case fresh =>
      rw [receiveWord_of_detect (by simpa using state), countWord_of_new (by simpa using other)] at meaning
      refine ⟨_, meaning, ?_⟩
      rw [link_settle, link_setLink_same, link_frameEnds]
      exact ⟨state, rfl, rfl⟩
    case waits =>
      rw [receiveWord_of_acknowledge (by simpa using state), settleWord_of_same (by simpa using accepted) same,
        if_neg (by simp [early])] at meaning
      refine ⟨_, meaning, ?_⟩
      rw [link_settle, link_setLink_same, link_frameEnds]
      exact ⟨state, by rw [now]⟩
    case alone =>
      rw [receiveWord_of_acknowledge (by simpa using state), settleWord_of_same (by simpa using accepted) same,
        if_pos ready] at meaning
      obtain ⟨link, -, auth', tells⟩ := enterUp_of_resolved (resolveAuthority_upEntered_alone
        (s := frameEnds l t s) (l := l) (v := v) (by simpa using accepted) (by simpa using alone))
      refine ⟨_, meaning, ?_⟩
      rw [link_settle, link, auth_settle, auth']
      refine ⟨rfl, by rw [enteredUp, now], rfl, rfl, rfl, told tells, fun body => ?_⟩
      subst body
      simp [enteredUp, fixedLevel, accepted]
    case both =>
      intro r
      rw [receiveWord_of_acknowledge (by simpa using state), settleWord_of_same (by simpa using accepted) same,
        if_pos ready] at meaning
      have beside := enterUp_beside (l := l) (s := frameEnds l t s) (v := v) (v' := v') (by simpa using accepted)
        (by simpa using up) (by simpa using others)
      obtain ⟨stays, holder, conflict, many, few⟩ := beside
      have outcome : r = resolveEntering l v v' := by cases l <;> rfl
      rw [outcome]
      refine ⟨_, meaning, fun which => ?_, holder, conflict, many, few⟩
      obtain ⟨mine, other, tells⟩ := stays which
      exact ⟨mine, other, told tells⟩
    case changed =>
      have entered := exchange_enterDetect l 1 (some w) (frameEnds l t s)
      rw [receiveWord_of_acknowledge (by simpa using state), settleWord_of_other (by simpa using accepted) other]
        at meaning
      refine ⟨_, meaning, ?_⟩
      rw [link_settle]
      exact ⟨congrArg LinkUnit.state entered, congrArg LinkUnit.matchCount entered,
        congrArg LinkUnit.acceptedWord entered⟩
    case up =>
      have left := leftUp_leaveUp l (frameEnds l t s)
      have entered := exchange_enterDetect l 1 (some w) (leaveUp l (frameEnds l t s))
      obtain ⟨records, replies⟩ := empty_enterDetect (n := 1) (w := some w) (s := leaveUp l (frameEnds l t s)) (l := l)
        (by simp [left.link]) (by simp [left.link])
      rw [receiveWord_of_up (by simpa using state)] at meaning
      refine ⟨_, meaning, ?_⟩
      simp only [link_settle]
      exact ⟨congrArg LinkUnit.state entered, congrArg LinkUnit.matchCount entered,
        congrArg LinkUnit.previousWord entered, replies, records, by simpa using left.holder,
        by simpa using left.conflict, told (peerTold_settle fun words => by simpa using left.told words)⟩

end Sys2Proof.Machine
end

section
/-! PROOF. The work of the store operations and their ends (R70 to R73, R77, R78, R81). -/

namespace Sys2Proof.Machine

/-! ### The verification of a program (R73) -/

/-- Whether two lists differ at a place. -/
def differsAt (xs ys : List Byte) (j : Nat) : Bool := decide (xs.getD j 0 ≠ ys.getD j 0)

/-- Two lists of one length agree, or differ first at a place and in a number of places. -/
theorem differences_spec (xs ys : List Byte) (i : Nat) (length : xs.length = ys.length) :
    (differences xs ys i = none ∧ ∀ j < xs.length, differsAt xs ys j = false) ∨
    ∃ k < xs.length, differsAt xs ys k = true ∧ (∀ j < k, differsAt xs ys j = false) ∧
      differences xs ys i = some (i + k, (List.range xs.length).countP (differsAt xs ys)) := by
  induction xs generalizing ys i with
  | nil => exact .inl ⟨by simp [differences], by simp⟩
  | cons x xs ih =>
    cases ys with
    | nil => simp at length
    | cons y ys =>
      have shift : ∀ j, differsAt (x :: xs) (y :: ys) (j + 1) = differsAt xs ys j := fun j => rfl
      have here : differsAt (x :: xs) (y :: ys) 0 = decide (x ≠ y) := rfl
      have count : (List.range (x :: xs).length).countP (differsAt (x :: xs) (y :: ys)) =
          (if x = y then 0 else 1) + (List.range xs.length).countP (differsAt xs ys) := by
        rw [List.length_cons, List.range_succ_eq_map, List.countP_cons, List.countP_map, here,
          show differsAt (x :: xs) (y :: ys) ∘ Nat.succ = differsAt xs ys from funext shift]
        by_cases same : x = y <;> simp [same, Nat.add_comm]
      rcases ih ys (i + 1) (by simpa using length) with ⟨none, same⟩ | ⟨k, inside, differs, first, found⟩
      · have rest : (List.range xs.length).countP (differsAt xs ys) = 0 := by
          rw [List.countP_eq_zero]
          intro j mem
          simp [same j (List.mem_range.1 mem)]
        by_cases equal : x = y
        · refine .inl ⟨by simp [differences, none, equal], fun j inside => ?_⟩
          cases j with
          | zero => exact here.trans (by simp [equal])
          | succ j => exact (shift j).trans (same j (by simpa using inside))
        · refine .inr ⟨0, by simp, by simp [here, equal], by simp, ?_⟩
          rw [count, rest]
          simp [differences, none, equal]
      · by_cases equal : x = y
        · refine .inr ⟨k + 1, by simpa using inside, (shift k).trans differs, fun j before => ?_, ?_⟩
          · cases j with
            | zero => exact here.trans (by simp [equal])
            | succ j => exact (shift j).trans (first j (by omega))
          · rw [count]
            simp [differences, found, equal, Nat.add_assoc, Nat.add_comm 1]
        · refine .inr ⟨0, by simp, by simp [here, equal], by simp, ?_⟩
          rw [count]
          simp [differences, found, equal, Nat.add_comm 1]

/-- What a verification finds, by the places at which the bytes differ. -/
theorem verifyResult_spec {xs ys : List Byte} {n : Nat} {differs : Nat → Bool} (left : xs.length = n)
    (right : ys.length = n) (same : ∀ j < n, differs j = differsAt xs ys j) :
    ((∀ i < n, differs i = false) → verifyResult xs ys = .done) ∧
    (∀ i < n, differs i = true → (∀ j < i, differs j = false) →
      verifyResult xs ys = .verifyFault i ((List.range n).countP differs)) := by
  subst left
  have count : (List.range xs.length).countP differs =
      (List.range xs.length).countP (differsAt xs ys) :=
    List.countP_congr fun j mem => by rw [same j (List.mem_range.1 mem)]
  rcases differences_spec xs ys 0 right.symm with ⟨none, equal⟩ | ⟨k, inside, differ, first, found⟩
  · refine ⟨fun _ => by simp [verifyResult, none], fun i below differ _ => ?_⟩
    rw [same i below, equal i below] at differ
    cases differ
  · refine ⟨fun equal => ?_, fun i below differ' first' => ?_⟩
    · have equal := equal k inside
      rw [same k inside, differ] at equal
      cases equal
    · have place : k = i := by
        rcases Nat.lt_trichotomy k i with before | at_ | after
        · have equal := first' k before
          rw [same k inside, differ] at equal
          cases equal
        · exact at_
        · rw [same i below, first i after] at differ'
          cases differ'
      simp only [verifyResult, found, Nat.zero_add, place, count]

/-! ### Completion (R70, R82) -/

theorem events_reevaluate_of_still {s : State} (still : s.engine.state.runs = false) :
    (reevaluate s).events = s.events := by
  have stays : stopIfNeeded s = s := by simp [stopIfNeeded, still]
  rw [reevaluate, stays]
  simp

/-- The event of a result (R70). -/
def resultEvent : OpResult → Event
  | .done => .storeDone
  | .verifyFault _ _ => .storeFault

/-- The store with its operation completed. -/
def completed (o : StoreOp) (result : OpResult) (s : State) : State :=
  s.setStore { s.store with
    op := none,
    lastCompletion := some { name := o.name, sector := o.sector, page := o.page, result := result } }

theorem completeOp_eq (o : StoreOp) (result : OpResult) (s : State) :
    completeOp o result s = reevaluate (raise (resultEvent result) (completed o result s)) := by
  cases result <;> rfl

theorem store_completeOp (o : StoreOp) (result : OpResult) (s : State) : (completeOp o result s).store =
    { s.store with
      op := none,
      lastCompletion := some { name := o.name, sector := o.sector, page := o.page, result := result } } := by
  simp [completeOp_eq, completed]

@[simp] theorem now_raise (e : Event) (s : State) : (raise e s).now = s.now := by simp [State.now]

@[simp] theorem now_completeOp (o : StoreOp) (result : OpResult) (s : State) : (completeOp o result s).now = s.now := by
  simp [completeOp_eq, completed]

/-- A completion raises its result's event alone while the engine does not run. -/
theorem latches_completeOp {s : State} (still : s.engine.state.runs = false) (o : StoreOp) (result : OpResult) :
    Latches (resultEvent result).mask (resultEvent result).mask s (completeOp o result s) := by
  have raised := latches_raise (resultEvent result) (completed o result s)
  rw [completeOp_eq]
  exact raised.same_after (events_reevaluate_of_still (by simpa [completed] using still))

/-! ### Work that begins (R81) -/

theorem exec_storeWorkBegins {name : StoreOpName} {sector : Option (BitVec 3)} {page : Option (BitVec 8)} {s : State}
    (op : s.store.op = some ⟨name, sector, page, none⟩) (free : s.store.port = none) :
    exec .storeWorkBegins s = answer (beginWork ⟨name, sector, page, none⟩ s) := by
  show execStoreWorkBegins s = _
  simp only [execStoreWorkBegins, op, free]
  rfl

theorem beginWork_of_other {name : StoreOpName} (other : name ≠ .clearReadProtection) (sector : Option (BitVec 3))
    (page : Option (BitVec 8)) (s : State) : beginWork ⟨name, sector, page, none⟩ s =
      s.setStore { s.store with op := some ⟨name, sector, page, some s.now⟩ } := by
  cases name
  case clearReadProtection => exact absurd rfl other
  all_goals rfl

/-! ### ERASE SECTOR (R72) -/

theorem exec_eraseComplete {n : BitVec 3} {page : Option (BitVec 8)} {since : Instant} {s : State}
    (op : s.store.op = some ⟨.eraseSector, some n, page, some since⟩) : exec .eraseComplete s =
      answer (finishErase ⟨.eraseSector, some n, page, some since⟩ n (advanceTo (addInterval since 45000) s)) := by
  show execEraseComplete s = _
  simp only [execEraseComplete, op]

theorem flashRead_erasedSector (m : List Host.Cell) (n : BitVec 3) (a : Nat) :
    flashRead (flashErase m (sectorBase n) sectorSize) a =
      if 65536 * n.toNat ≤ a ∧ a < 65536 * n.toNat + 65536 then 0xFF else flashRead m a := by
  rw [flashRead_flashErase]
  simp only [sectorBase, sectorSize, erasedByte]
  rfl

/-- Settles O35: the work begins, and `finishErase` erases the sector and completes. -/
theorem eraseRunsToItsEnd : Obligations.EraseRunsToItsEnd := by
  refine ⟨fun name sector page s op free other => ?begins, fun n page since s op still => ?ends⟩
  case begins =>
    rw [exec_storeWorkBegins op free, beginWork_of_other other]
    rfl
  case ends =>
    have meaning := exec_eraseComplete op
    generalize addInterval since 45000 = t at meaning ⊢
    let erased := setFlash (flashErase s.store.flash (sectorBase n) sectorSize) (advanceTo t s)
    have meaning : exec .eraseComplete s =
      answer (completeOp ⟨.eraseSector, some n, page, some since⟩ .done erased) := meaning
    have store := store_completeOp ⟨.eraseSector, some n, page, some since⟩ .done erased
    have raised : Latches (Event.mask .storeDone) (Event.mask .storeDone) s
        (completeOp ⟨.eraseSector, some n, page, some since⟩ .done erased) :=
      latches_completeOp (s := erased) still _ .done
    refine ⟨_, meaning, by simp [erased, setFlash], fun a => ?_, ?_, raised.settle, ?_⟩
    · simp only [settle_frame, store]
      exact flashRead_erasedSector s.store.flash n a
    · simp only [settle_frame, store]
      rfl
    · simp [erased, setFlash]

/-! ### PROGRAM PAGE (R73) -/

theorem exec_programComplete {n : BitVec 3} {p : BitVec 8} {since : Instant} {s : State}
    (op : s.store.op = some ⟨.programPage, some n, some p, some since⟩) : exec .programComplete s =
      answer (finishProgram ⟨.programPage, some n, some p, some since⟩ n p
        (advanceTo (addInterval since 1500) s)) := by
  show execProgramComplete s = _
  simp only [execProgramComplete, op]

theorem getD_flashBytes {m : List Host.Cell} {a n i : Nat} (inside : i < n) :
    (flashBytes m a n).getD i 0 = flashRead m (a + i) := by
  simp [flashBytes, List.getD_eq_getElem?_getD, inside]

/-- What the verification of a program compares: the old bytes AND those programmed, against those programmed. -/
theorem verifyResult_flashProgram {m : List Host.Cell} {a : Nat} {bytes : List Byte} (wf : flashWf m = true)
    (fits : a + bytes.length ≤ flashSize) :
    let differs := fun i => decide (flashRead m (a + i) &&& bytes.getD i 0 ≠ bytes.getD i 0)
    let result := verifyResult (flashBytes (flashProgram m a bytes) a bytes.length) bytes
    ((∀ i < bytes.length, differs i = false) → result = .done) ∧
    (∀ i < bytes.length, differs i = true → (∀ j < i, differs j = false) →
      result = .verifyFault i ((List.range bytes.length).countP differs)) := by
  refine verifyResult_spec (by simp [flashBytes]) rfl fun j inside => ?_
  rw [differsAt, getD_flashBytes inside, flashRead_flashProgram wf fits, if_pos (by omega), Nat.add_sub_cancel_left]

/-- Settles O36: `finishProgram` programs the page, verifies it and completes with the result. -/
theorem programRunsToItsEnd : Obligations.ProgramRunsToItsEnd := by
  intro n p since s law op still base differs
  obtain ⟨wf, buffer, -, -⟩ := law
  let m := flashProgram s.store.flash (pageBase n p) s.store.pageBuffer
  let r := verifyResult (flashBytes m (pageBase n p) 256) s.store.pageBuffer
  have meaning := exec_programComplete op
  generalize addInterval since 1500 = t at meaning ⊢
  let programmed := (advanceTo t s).setStore { s.store with flash := m, pageBuffer := erasedPage }
  have meaning : exec .programComplete s =
    answer (completeOp ⟨.programPage, some n, some p, some since⟩ r programmed) := meaning
  have address : pageBase n p = base := rfl
  have fits : pageBase n p + s.store.pageBuffer.length ≤ flashSize := by
    rw [buffer]
    exact (pageBase_le n p).2.trans (sectorBase_le n)
  obtain ⟨done, fault⟩ := verifyResult_flashProgram wf fits
  rw [buffer] at done fault
  have store := store_completeOp ⟨.programPage, some n, some p, some since⟩ r programmed
  have raised : Latches (resultEvent r).mask (resultEvent r).mask s
      (completeOp ⟨.programPage, some n, some p, some since⟩ r programmed) :=
    latches_completeOp (s := programmed) still _ r
  refine ⟨_, r, meaning, by simp [programmed], fun a => ?_, ?_, fun same => ?_, fun i inside differ first => ?_, ?_⟩
  · simp only [settle_frame, store]
    rw [← address, ← buffer]
    exact flashRead_flashProgram wf fits a
  · simp only [settle_frame, store]
    rfl
  · have result : r = .done := done same
    refine ⟨result, ?_⟩
    rw [show resultEvent r = .storeDone by rw [result]; rfl] at raised
    exact raised.settle
  · have result : r = .verifyFault i _ := fault i inside differ first
    refine ⟨result, ?_⟩
    rw [show resultEvent r = .storeFault by rw [result]; rfl] at raised
    exact raised.settle
  · simp [programmed]

/-! ### SET READ PROTECTION and CLEAR READ PROTECTION (R77, R78) -/

theorem exec_setReadProtectionComplete {n : Option (BitVec 3)} {p : Option (BitVec 8)} {since : Instant} {s : State}
    (op : s.store.op = some ⟨.setReadProtection, n, p, some since⟩) : exec .setReadProtectionComplete s =
      answer (finishProtect ⟨.setReadProtection, n, p, some since⟩ (advanceTo (addInterval since 1500) s)) := by
  show execSetReadProtectionComplete s = _
  simp only [execSetReadProtectionComplete, op]

theorem exec_clearProtectionSectorErased {n : BitVec 3} {p : Option (BitVec 8)} {since : Instant} {s : State}
    (op : s.store.op = some ⟨.clearReadProtection, some n, p, some since⟩) : exec .clearProtectionSectorErased s =
      answer (finishClearSector ⟨.clearReadProtection, some n, p, some since⟩ n
        (advanceTo (addInterval since 45000) s)) := by
  show execClearProtectionSectorErased s = _
  simp only [execClearProtectionSectorErased, op]

theorem markerBase_eq : markerBase = 458752 := rfl

theorem marker_fits : markerBase + markerPattern.length ≤ flashSize := by
  rw [length_markerPattern]
  exact markerBase_le

theorem flashRead_marker {m : List Host.Cell} (wf : flashWf m = true) (a : Nat) :
    flashRead (flashProgram m markerBase markerPattern) a = if 458752 ≤ a ∧ a < 458768
      then flashRead m a &&& markerPattern.getD (a - 458752) 0 else flashRead m a := by
  rw [flashRead_flashProgram wf marker_fits, length_markerPattern, markerBase_eq]

/-- What the verification of the marker finds. -/
theorem verifyResult_marker {m : List Host.Cell} (wf : flashWf m = true) :
    let differs := fun i => decide (flashRead m (458752 + i) &&& markerPattern.getD i 0 ≠ markerPattern.getD i 0)
    let result := verifyResult (flashBytes (flashProgram m markerBase markerPattern) markerBase 16) markerPattern
    ((∀ i < 16, differs i = false) → result = .done) ∧
    (∀ i < 16, differs i = true → (∀ j < i, differs j = false) →
      result = .verifyFault i ((List.range 16).countP differs)) := by
  have found := verifyResult_flashProgram wf marker_fits
  rw [length_markerPattern] at found
  rwa [markerBase_eq] at found ⊢

/-- A programmed marker area does not read as erased: its first byte lacks a bit (R76, R77). -/
theorem markerSet_programmed {m : List Host.Cell} (wf : flashWf m = true) :
    markerSet (flashProgram m markerBase markerPattern) = true := by
  refine (markerSet_iff _).2 ⟨0, by decide, ?_⟩
  have first : markerPattern.getD (458752 + 0 - 458752) 0 = 0x3C := rfl
  rw [flashRead_marker wf, if_pos ⟨by omega, by omega⟩, first]
  intro erased
  have bit : (flashRead m (458752 + 0) &&& 0x3C).getLsbD 0 = (0xFF : Byte).getLsbD 0 := by rw [erased]
  simp at bit

/-- What each erase of CLEAR READ PROTECTION does (R78). -/
theorem finishClearSector_goesOn {o : StoreOp} {n : BitVec 3} (more : n ≠ 7) (s : State) : finishClearSector o n s =
    beginOnSector (n + 1) (s.setStore { s.store with
      flash := flashErase s.store.flash (sectorBase n) sectorSize
      op := some { o with sector := some (n + 1), working := some s.now } }) := by
  rw [finishClearSector, if_neg more]
  rfl

theorem finishClearSector_ends (o : StoreOp) (s : State) : finishClearSector o 7 s =
    completeOp o .done (s.setStore { s.store with
      flash := flashErase s.store.flash (sectorBase 7) sectorSize, readProtection := false }) := by
  rw [finishClearSector, if_pos rfl]
  rfl

/-- No active table is in a sector whose erase or program has begun. -/
theorem sector_of_active {n : BitVec 3} {s u : State} {x : Store} (store : u.store = x)
    (kept : x.breathing = keptTable n s.store.breathing ∧ x.shading = keptTable n s.store.shading) (k : TableKind)
    {tb : ActiveTable} (active : u.active k = some tb) : tb.sector ≠ n := by
  obtain ⟨breathing, shading⟩ := kept
  cases k
  · exact sector_of_keptTable (breathing.symm.trans ((congrArg Store.breathing store).symm.trans active))
  · exact sector_of_keptTable (shading.symm.trans ((congrArg Store.shading store).symm.trans active))

/-- The start of the erase of a sector other than sector 0 raises nothing and moves no engine. -/
theorem beginOnSector_other {n : BitVec 3} (other : n ≠ 0) (s : State) :
    (beginOnSector n s).events = s.events ∧ (beginOnSector n s).now = s.now := by
  simp only [beginOnSector, if_neg other]
  exact ⟨by simp, by simp [State.now]⟩

end Sys2Proof.Machine
end

section
/-! PROOF. The read protection operations run to their ends (R77, R78). -/

namespace Sys2Proof.Machine

/-- The state with the store's flash and its read protection written at an instant. -/
def protectedAt (t : Instant) (m : List Host.Cell) (b : Bool) (s : State) : State :=
  (advanceTo t s).setStore { s.store with flash := m, readProtection := b }

theorem store_completed_protectedAt (o : StoreOp) (r : OpResult) (t : Instant) (m : List Host.Cell) (b : Bool)
    (s : State) : (settle (completeOp o r (protectedAt t m b s))).store = { s.store with
      flash := m, readProtection := b, op := none, lastCompletion := some ⟨o.name, o.sector, o.page, r⟩ } := by
  simp [store_completeOp, protectedAt]

theorem rest_completed_protectedAt (o : StoreOp) (r : OpResult) (t : Instant) (m : List Host.Cell) (b : Bool)
    (s : State) : (settle (completeOp o r (protectedAt t m b s))).now = laterOf t s.now ∧
      (settle (completeOp o r (protectedAt t m b s))).cache = s.cache ∧
      (settle (completeOp o r (protectedAt t m b s))).links = s.links ∧
      (settle (completeOp o r (protectedAt t m b s))).auth = s.auth := by
  simp [protectedAt]

theorem raised_completed_protectedAt {s : State} (still : s.engine.state.runs = false) (o : StoreOp) (r : OpResult)
    (t : Instant) (m : List Host.Cell) (b : Bool) :
    EventsRaised (resultEvent r).mask (resultEvent r).mask s (settle (completeOp o r (protectedAt t m b s))) :=
  have raised : Latches (resultEvent r).mask (resultEvent r).mask s (completeOp o r (protectedAt t m b s)) :=
    latches_completeOp (s := protectedAt t m b s) still o r
  raised.settle

/-- SET READ PROTECTION ends (R77). -/
theorem exec_setReadProtectionComplete_protectedAt {n : Option (BitVec 3)} {p : Option (BitVec 8)} {since : Instant}
    {s : State} (op : s.store.op = some ⟨.setReadProtection, n, p, some since⟩) (wf : flashWf s.store.flash = true) :
    ∃ m r, exec .setReadProtectionComplete s = answer (completeOp ⟨.setReadProtection, n, p, some since⟩ r
        (protectedAt (addInterval since 1500) m true s)) ∧
      m = flashProgram s.store.flash markerBase markerPattern ∧
      r = verifyResult (flashBytes m markerBase 16) markerPattern := by
  refine ⟨_, _, (exec_setReadProtectionComplete op).trans ?_, rfl, rfl⟩
  rw [← markerSet_programmed wf]
  rfl

theorem setReadProtectionEnds {n : Option (BitVec 3)} {p : Option (BitVec 8)} {since : Instant} {s : State}
    (law : StoreLaw s) (op : s.store.op = some ⟨.setReadProtection, n, p, some since⟩) :
    ∃ t, exec .setReadProtectionComplete s = .next t ∧ t.now = laterOf (addInterval since 1500) s.now ∧
      (∀ a, flashRead t.store.flash a = if 458752 ≤ a ∧ a < 458768
        then flashRead s.store.flash a &&& markerPattern.getD (a - 458752) 0 else flashRead s.store.flash a) ∧
      t.store.readProtection = true ∧ t.store.op = none ∧ t.store.pageBuffer = s.store.pageBuffer ∧
      t.store.verdicts = s.store.verdicts ∧ t.cache = s.cache ∧ t.links = s.links ∧ t.auth = s.auth ∧
      let wanted := fun i => markerPattern.getD i 0
      let differs := fun i => decide (flashRead s.store.flash (458752 + i) &&& wanted i ≠ wanted i)
      ((∀ i < 16, differs i = false) →
        t.store.lastCompletion = some ⟨.setReadProtection, n, p, .done⟩ ∧
        (s.engine.state.runs = false → EventsRaised (Event.mask .storeDone) (Event.mask .storeDone) s t)) ∧
      (∀ i < 16, differs i = true → (∀ j < i, differs j = false) →
        t.store.lastCompletion =
          some ⟨.setReadProtection, n, p, .verifyFault i ((List.range 16).countP differs)⟩ ∧
        (s.engine.state.runs = false → EventsRaised (Event.mask .storeFault) (Event.mask .storeFault) s t)) := by
  obtain ⟨wf, -, -, -⟩ := law
  obtain ⟨m, r, meaning, programmed, verified⟩ := exec_setReadProtectionComplete_protectedAt op wf
  generalize addInterval since 1500 = t at meaning ⊢
  have read := flashRead_marker wf
  obtain ⟨done, fault⟩ := verifyResult_marker wf
  rw [← programmed] at read
  rw [← programmed, ← verified] at done fault
  clear programmed verified
  have store := store_completed_protectedAt ⟨.setReadProtection, n, p, some since⟩ r t m true s
  obtain ⟨now, cache, links, auth⟩ := rest_completed_protectedAt ⟨.setReadProtection, n, p, some since⟩ r t m true s
  have raised := fun still => raised_completed_protectedAt (s := s) still ⟨.setReadProtection, n, p, some since⟩ r t m
    true
  generalize completeOp ⟨.setReadProtection, n, p, some since⟩ r (protectedAt t m true s) = u at *
  refine ⟨_, meaning, now, ?_, by rw [store], by rw [store], by rw [store], by rw [store], cache, links, auth, ?_⟩
  · rw [store]
    exact read
  · refine ⟨fun same => ?_, fun i inside differ first => ?_⟩
    · have result := done same
      subst result
      exact ⟨by rw [store], raised⟩
    · have result := fault i inside differ first
      subst result
      exact ⟨by rw [store], raised⟩

/-- The work of CLEAR READ PROTECTION begins (R78). -/
theorem clearReadProtectionBegins {n : BitVec 3} {s : State}
    (op : s.store.op = some ⟨.clearReadProtection, some n, none, none⟩) (free : s.store.port = none) :
    ∃ t, exec .storeWorkBegins s = .next t ∧
      t.store.op = some ⟨.clearReadProtection, some n, none, some s.now⟩ ∧
      t.store.flash = s.store.flash ∧ t.store.verdicts = s.store.verdicts.set n.toNat .unscanned ∧
      (∀ k tb, t.active k = some tb → tb.sector ≠ n) ∧ t.links = s.links ∧ t.auth = s.auth := by
  have meaning := exec_storeWorkBegins op free
  let begun := s.setStore { s.store with op := some ⟨.clearReadProtection, some n, none, some s.now⟩ }
  have meaning : exec .storeWorkBegins s = answer (beginOnSector n begun) := meaning
  obtain ⟨port, store⟩ := store_beginOnSector n begun
  have store := Eq.trans (show (settle (beginOnSector n begun)).store = _ by simp) store
  refine ⟨_, meaning, by rw [store]; rfl, by rw [store]; rfl, by rw [store]; rfl, fun k tb active => ?_,
    by simp [begun], by simp [begun]⟩
  exact sector_of_active store (s := begun) ⟨rfl, rfl⟩ k active

/-- The erase of sector 7 ends CLEAR READ PROTECTION (R78). -/
theorem clearReadProtectionEnds {p : Option (BitVec 8)} {since : Instant} {s : State}
    (op : s.store.op = some ⟨.clearReadProtection, some 7, p, some since⟩) :
    ∃ t, exec .clearProtectionSectorErased s = .next t ∧ t.now = laterOf (addInterval since 45000) s.now ∧
      t.store = { s.store with
        flash := flashErase s.store.flash (sectorBase 7) sectorSize, readProtection := false, op := none
        lastCompletion := some ⟨.clearReadProtection, some 7, p, .done⟩ } ∧
      t.links = s.links ∧ t.auth = s.auth ∧
      (s.engine.state.runs = false → EventsRaised (Event.mask .storeDone) (Event.mask .storeDone) s t) := by
  have meaning := exec_clearProtectionSectorErased op
  generalize addInterval since 45000 = t at meaning ⊢
  rw [finishClearSector_ends] at meaning
  have meaning : exec .clearProtectionSectorErased s = answer (completeOp ⟨.clearReadProtection, some 7, p, some since⟩
    .done (protectedAt t (flashErase s.store.flash (sectorBase 7) sectorSize) false s)) := meaning
  obtain ⟨now, -, links, auth⟩ := rest_completed_protectedAt ⟨.clearReadProtection, some 7, p, some since⟩ .done t
    (flashErase s.store.flash (sectorBase 7) sectorSize) false s
  exact ⟨_, meaning, now, store_completed_protectedAt _ _ _ _ _ _, links, auth,
    fun still => raised_completed_protectedAt still _ .done _ _ _⟩

/-- The erase of an earlier sector goes on to the next sector (R78). -/
theorem clearReadProtectionGoesOn {n : BitVec 3} {p : Option (BitVec 8)} {since : Instant} {s : State}
    (op : s.store.op = some ⟨.clearReadProtection, some n, p, some since⟩) (more : n ≠ 7) :
    ∃ t port, exec .clearProtectionSectorErased s = .next t ∧ t.now = laterOf (addInterval since 45000) s.now ∧
      t.store = { s.store with
        flash := flashErase s.store.flash (sectorBase n) sectorSize
        op := some ⟨.clearReadProtection, some (n + 1), p, some t.now⟩
        verdicts := s.store.verdicts.set (n.toNat + 1) .unscanned
        breathing := keptTable (n + 1) s.store.breathing
        shading := keptTable (n + 1) s.store.shading
        port := port } ∧
      EventsRaised 0 0 s t ∧ t.links = s.links ∧ t.auth = s.auth := by
  have meaning := exec_clearProtectionSectorErased op
  generalize addInterval since 45000 = t at meaning ⊢
  rw [finishClearSector_goesOn more] at meaning
  let begun := (advanceTo t s).setStore { s.store with
    flash := flashErase s.store.flash (sectorBase n) sectorSize
    op := some ⟨.clearReadProtection, some (n + 1), p, some (laterOf t s.now)⟩ }
  have meaning : exec .clearProtectionSectorErased s = answer (beginOnSector (n + 1) begun) := by
    rw [meaning, now_advanceTo]
    rfl
  have number : (n + 1).toNat = n.toNat + 1 := by
    have := n.isLt
    have : n.toNat ≠ 7 := fun seven => more (BitVec.eq_of_toNat_eq seven)
    simp
    omega
  have other : n + 1 ≠ 0 := fun zero => by
    rw [zero] at number
    simp at number
  obtain ⟨port, store⟩ := store_beginOnSector (n + 1) begun
  obtain ⟨events, now⟩ := beginOnSector_other other begun
  have now : (settle (beginOnSector (n + 1) begun)).now = laterOf t s.now := by
    rw [now_settle, now]
    exact now_advanceTo t s
  refine ⟨_, port, meaning, now, ?_, ?_, by simp [begun], by simp [begun]⟩
  · rw [now]
    refine Eq.trans (by simp) (store.trans ?_)
    rw [if_neg other, if_neg other, number]
    rfl
  · have raised : Latches 0 0 s (beginOnSector (n + 1) begun) := latches_of_same events
    exact raised.settle

/-- Settles O37: `finishProtect` and `finishClearSector`, and the work that begins with a withdrawal. -/
theorem readProtectionOperationsRun : Obligations.ReadProtectionOperationsRun := by
  refine ⟨fun n p since s law op => setReadProtectionEnds law op,
    fun n s op free _ => clearReadProtectionBegins op free, fun n p since s op other => ?erased⟩
  case erased =>
    by_cases last : n = 7
    · subst last
      obtain ⟨t, meaning, now, store, links, auth, raised⟩ := clearReadProtectionEnds op
      refine ⟨t, meaning, now, fun a => ?_, fun _ => ⟨by rw [store], by rw [store], by rw [store], raised⟩,
        fun more => absurd rfl more, by rw [store], by rw [store], links, auth⟩
      rw [store]
      exact flashRead_erasedSector s.store.flash 7 a
    · obtain ⟨t, port, meaning, now, store, raised, links, auth⟩ := clearReadProtectionGoesOn op last
      refine ⟨t, meaning, now, fun a => ?_, fun seven => absurd seven last,
        fun _ => ⟨by rw [store], by rw [store], by rw [store], by rw [store], raised, fun k tb active => ?_⟩,
        by rw [store], by rw [store], links, auth⟩
      · rw [store]
        exact flashRead_erasedSector s.store.flash n a
      · exact sector_of_active store (s := s) ⟨rfl, rfl⟩ k active

end Sys2Proof.Machine
end

section
/-! PROOF. The flash read port: the arbiter (R80) and the cells it reads (R56, R61). -/

namespace Sys2Proof.Machine

/-! ### The sources (R80) -/

theorem firstReady_append {pre post : List FillEntry} {e : FillEntry} (reading : ∀ x ∈ pre, x.beingRead = true)
    (ready : e.beingRead = false) : firstReady (pre ++ e :: post) = some e := by
  unfold firstReady
  rw [List.find?_append, List.find?_eq_none.2 fun x mem => by simp [reading x mem],
    List.find?_cons_of_pos (by simp [ready])]
  rfl

theorem firstReady_eq_none {es : List FillEntry} (reading : ∀ x ∈ es, x.beingRead = true) : firstReady es = none :=
  List.find?_eq_none.2 fun x mem => by simp [reading x mem]

theorem markFirst_append {pre post : List FillEntry} {e : FillEntry} (reading : ∀ x ∈ pre, x.beingRead = true)
    (ready : e.beingRead = false) :
    markFirst (pre ++ e :: post) = pre ++ { e with beingRead := true } :: post := by
  induction pre with
  | nil => simp [markFirst, ready]
  | cons x pre ih =>
    have rest := ih fun y mem => reading y (List.mem_cons_of_mem _ mem)
    have here := reading x List.mem_cons_self
    simp [markFirst, here, rest]

theorem walkKey_of_walking {w : Walk} {k : Key} {ks : List Key} (walking : w.state = .walking)
    (rest : w.rest = k :: ks) :
    walkKey w = some k := by
  simp [walkKey, walking, rest]

theorem walkKey_of_still {w : Walk} (still : w.state ≠ .walking) : walkKey w = none := by
  unfold walkKey
  split
  case h_1 walking => exact absurd walking still
  all_goals rfl

/-- A port that is free serves the first source that has a read ready. -/
theorem exec_portReadStart {s : State} {x : PortSource} (started : s.started = true) (port : s.store.port = none)
    (idle : s.store.op = none) (next : nextSource s = some x) : exec .portReadStart s = answer (startSource x s) := by
  show execPortReadStart s = _
  have free : portFree s = true := by simp [portFree, started, port, idle]
  simp only [execPortReadStart, next, free, if_true]

/-! ### The cells (R56, R61) -/

theorem clampInt_eq {lo hi : Int} (order : lo ≤ hi) (x : Int) : clampInt lo hi x = max lo (min hi x) := by
  unfold clampInt
  split
  · omega
  · split <;> omega

theorem sectorBase_eq (n : BitVec 3) : sectorBase n = 65536 * n.toNat := rfl

theorem cellAddress_breathing (tb : ActiveTable) (f z i : Nat) : cellAddress tb ⟨.breathing, f, z, i⟩ =
    65536 * tb.sector.toNat + 11 + 2 * (tb.focus.length + tb.zoom.length) +
      8 * (f + tb.focus.length * (z + tb.zoom.length * i)) := by
  simp only [cellAddress, sectorBase_eq, headerLength, cellNumber, cellLength]
  omega

theorem cellAddress_shading (tb : ActiveTable) (f z i : Nat) : cellAddress tb ⟨.shading, f, z, i⟩ =
    65536 * tb.sector.toNat + 14 + 2 * (tb.focus.length + tb.zoom.length + tb.iris.length) +
      18 * (f + tb.focus.length * (z + tb.zoom.length * i)) := by
  simp only [cellAddress, sectorBase_eq, headerLength, cellNumber, cellLength]
  omega

theorem cellAt_breathing (m : List Host.Cell) (tb : ActiveTable) {k : Key} {a : Nat} (kind : k.kind = .breathing)
    (address : cellAddress tb k = a) : cellAt m tb k = .breathing (max 800000 (min 1250000 (flash32 m a)))
      (max (-5000) (min 5000 (BitVec.ofNat 16 (flash16 m (a + 4))).toInt))
      (max (-5000) (min 5000 (BitVec.ofNat 16 (flash16 m (a + 6))).toInt)) := by
  simp only [cellAt, kind, address, signed16]
  rw [clampInt_eq (by decide), clampInt_eq (by decide), clampInt_eq (by decide)]

theorem cellAt_shading (m : List Host.Cell) (tb : ActiveTable) {k : Key} {a : Nat} (kind : k.kind = .shading)
    (address : cellAddress tb k = a) : cellAt m tb k =
      .shading ((List.range 9).map fun j => max 4096 (min 32767 (flash16 m (a + 2 * j) : Int))) := by
  have clamp (x : Int) : clampInt 4096 32767 x = max 4096 (min 32767 x) := clampInt_eq (by decide) x
  simp only [cellAt, kind, address, clamp]

/-- Settles O33: the arbiter's match by rank, and `cellAt` at the cell's address. -/
theorem portServesInRank : Obligations.PortServesInRank := by
  refine ⟨fun s started port idle => ⟨fun pre post e tb queue reading ready active => ?demand, fun reading =>
    ⟨fun k ks tb walking rest active => ?walk, fun still => ⟨fun pre post e tb queue before ready active => ?prefetch,
      fun before r rs waiting => ?readStore⟩⟩⟩, fun m tb f z i => ?cells⟩
  case demand =>
    have first : firstReady s.cache.demand = some e := by rw [queue, firstReady_append reading ready]
    have next : nextSource s = some (.demand e.key) := by simp only [nextSource, first]
    rw [exec_portReadStart started port idle next]
    simp only [startSource, active, queue, markFirst_append reading ready]
    rfl
  case walk =>
    have first : firstReady s.cache.demand = none := firstReady_eq_none reading
    have next : nextSource s = some (.walk k) := by
      simp only [nextSource, first, walkKey_of_walking walking rest]
    rw [exec_portReadStart started port idle next]
    simp only [startSource, active]
    rfl
  case prefetch =>
    have first : firstReady s.cache.demand = none := firstReady_eq_none reading
    have second : firstReady s.cache.prefetch = some e := by rw [queue, firstReady_append before ready]
    have next : nextSource s = some (.prefetch e.key) := by
      simp only [nextSource, first, walkKey_of_still still, second]
    rw [exec_portReadStart started port idle next]
    simp only [startSource, active, queue, markFirst_append before ready]
    rfl
  case readStore =>
    have first : firstReady s.cache.demand = none := firstReady_eq_none reading
    have second : firstReady s.cache.prefetch = none := firstReady_eq_none before
    have next : nextSource s = some (.readStore r) := by
      simp only [nextSource, first, walkKey_of_still still, second, waiting]
    rw [exec_portReadStart started port idle next]
    simp only [startSource, waiting]
    rfl
  case cells =>
    exact ⟨cellAt_breathing m tb rfl (cellAddress_breathing tb f z i),
      cellAt_shading m tb rfl (cellAddress_shading tb f z i)⟩

end Sys2Proof.Machine
end

section
/-! PROOF. The ends of the port's reads: a fill (R87, R91, R136), a read of the lock walk (R96, R97) and a READ STORE
(R79). -/

namespace Sys2Proof.Machine

/-! ### A placed cell is in the cache (R87) -/

theorem isLocked_of_oldestUnlocked_none {ways : List Way} {i : Nat} (full : oldestUnlocked i ways = none) :
    ∀ w ∈ ways, w.isLocked = true := by
  induction ways generalizing i with
  | nil => exact nofun
  | cons w ws ih =>
    unfold oldestUnlocked at full
    split at full
    case h_1 later =>
      split at full
      case isTrue locked =>
        intro v mem
        rcases List.mem_cons.1 mem with rfl | mem
        · exact locked
        · exact ih later v mem
      case isFalse => cases full
    case h_2 => split at full <;> cases full

/-- A set of the law has a way for a new cell: at most three of its four ways are locked. -/
theorem victimWay_ne_none {n : Nat} {ways : List Way} (law : SetLaw n ways) : victimWay ways ≠ none := by
  obtain ⟨length, -, locked, -, -⟩ := law
  intro full
  unfold victimWay at full
  split at full
  case h_1 => cases full
  case h_2 =>
    have all := isLocked_of_oldestUnlocked_none (Option.map_eq_none_iff.1 full)
    have count : lockedCount ways = ways.length := List.countP_eq_length.2 all
    omega

theorem not_mem_wayKeys_of_holds {n : Nat} {k : Key} {pre post : List Way} {w : Way} (law : SetLaw n (pre ++ w :: post))
    (holds : w.holds k = true) : k ∉ wayKeys (pre ++ post) := by
  obtain ⟨-, -, -, nodup⟩ := (setLaw_iff _ _).1 law
  have keys := (wayKeys_split pre post w).nodup_iff.1 nodup
  rw [(holds_iff k w).1 holds] at keys
  exact (List.nodup_cons.1 keys).1

/-- The payload a set holds for a key. -/
def cellOf (k : Key) (ways : List Way) : Option Cell :=
  (ways.find? (Way.holds k)).bind fun w => w.content.map WayContent.cell

theorem cachedCell_eq (k : Key) (c : Cache) : cachedCell k c = cellOf k (setOf k c.sets) := rfl

theorem cellOf_touchWay_fill {k : Key} {pre post : List Way} {w : Way} {c : WayContent} (key : c.key = k)
    (fresh : k ∉ wayKeys (pre ++ post)) :
    cellOf k (touchWay pre.length (pre ++ { w with content := some c } :: post)) = some c.cell := by
  have before : (pre.map fun v => { v with rank := raiseBelow w.rank v.rank }).find? (Way.holds k) = none := by
    refine List.find?_eq_none.2 fun x mem holds => ?_
    obtain ⟨v, inside, rfl⟩ := List.mem_map.1 mem
    exact fresh (mem_wayKeys.2 ⟨v, List.mem_append_left _ inside, holds⟩)
  have here : Way.holds k { w with rank := 0, content := some c } = true := by simp [Way.holds, key]
  rw [touchWay_split, cellOf, List.find?_append, before, List.find?_cons_of_pos here]
  rfl

theorem cellOf_placeInSet {n : Nat} (k : Key) (cell : Cell) {ways : List Way} (law : SetLaw n ways) :
    cellOf k (placeInSet k cell ways) = some cell := by
  unfold placeInSet
  split
  case h_1 i found =>
    obtain ⟨pre, w, post, rfl, rfl, holds⟩ := findIdx?_holds found
    dsimp only
    rw [fillWay_split]
    exact cellOf_touchWay_fill rfl (not_mem_wayKeys_of_holds law holds)
  case h_2 missing =>
    have fresh := not_mem_wayKeys_of_findIdx? missing
    split
    case h_1 i victim =>
      obtain ⟨pre, w, post, rfl, rfl, -⟩ := victimWay_spec victim
      rw [fillWay_split]
      refine cellOf_touchWay_fill rfl fun mem => fresh ?_
      exact (wayKeys_split pre post w).mem_iff.2 (List.mem_append_right _ mem)
    case h_2 full => exact absurd full (victimWay_ne_none law)

theorem cachedCell_placeCell {k : Key} (cell : Cell) {c : Cache} (law : SetsOk c.sets) (enabled : c.disabled = false) :
    cachedCell k (placeCell k cell c) = some cell := by
  rw [placeCell, enabled, if_neg Bool.false_ne_true, cachedCell_eq, setOf_changeSet_same k law.1]
  exact cellOf_placeInSet k cell (setLaw_setOf law k)

/-! ### The computation in progress (R32, R136) -/

theorem withComputing_of_none (f : Entry → Computation → Engine → Entry × Engine) (g : Engine) {es : List Entry}
    (still : ∀ x ∈ es, ∀ c, x.progress ≠ .computing c) : withComputing f g es = (es, g) := by
  induction es with
  | nil => rfl
  | cons e es ih =>
    unfold withComputing
    split
    case h_1 c computing => exact absurd computing (still e List.mem_cons_self c)
    case h_2 => rw [ih fun x mem => still x (List.mem_cons_of_mem _ mem)]

theorem withComputing_append (f : Entry → Computation → Engine → Entry × Engine) (g : Engine) {done rest : List Entry}
    {x : Entry} {c : Computation} (ready : ∀ d ∈ done, ∃ r, d.progress = .ready r)
    (computing : x.progress = .computing c) :
    withComputing f g (done ++ x :: rest) = (done ++ (f x c g).1 :: rest, (f x c g).2) := by
  induction done with
  | nil => simp [withComputing, computing]
  | cons d done ih =>
    obtain ⟨r, here⟩ := ready d List.mem_cons_self
    simp [withComputing, here, ih fun x mem => ready x (List.mem_cons_of_mem _ mem)]

theorem onComputing_of_none (f : Entry → Computation → Engine → Entry × Engine) {s : State}
    (still : ∀ x ∈ s.timing.frames, ∀ c, x.progress ≠ .computing c) : onComputing f s = s := by
  rw [onComputing, withComputing_of_none f _ still]
  rfl

theorem onComputing_append (f : Entry → Computation → Engine → Entry × Engine) {s : State} {done rest : List Entry}
    {x : Entry} {c : Computation} (frames : s.timing.frames = done ++ x :: rest)
    (ready : ∀ d ∈ done, ∃ r, d.progress = .ready r) (computing : x.progress = .computing c) :
    onComputing f s = (s.setTiming { s.timing with frames := done ++ (f x c s.engine).1 :: rest }).setEngine
      (f x c s.engine).2 := by
  rw [onComputing, frames, withComputing_append f _ ready computing]

theorem receive_eq (k : Key) (cell : Cell) (c : Computation) : c.receive k cell = { c with
    breathing := (match c.breathing with
      | .gathering f a z needs =>
        .gathering f a z (needs.map fun n => if n.key = k ∧ n.cell = none then ⟨k, some cell⟩ else n)
      | b => b)
    shading := (match c.shading with
      | .gathering f z i rn needs =>
        .gathering f z i rn (needs.map fun n => if n.key = k ∧ n.cell = none then ⟨k, some cell⟩ else n)
      | b => b) } := by
  have needs (ns : List Need) : receiveNeed k cell ns =
      ns.map fun n => if n.key = k ∧ n.cell = none then ⟨k, some cell⟩ else n := by
    refine List.map_congr_left fun n _ => ?_
    by_cases awaited : n.key = k ∧ n.cell = none
    · simp [awaited]
    · rw [if_neg awaited, if_neg (by simpa using awaited)]
  simp only [Computation.receive, needs] <;> rfl

/-! ### FILL_COMPLETE (R91) -/

/-- The state after a fill's read, without its entry. -/
def fillTaken (k : Key) (since : Instant) (s : State) : State :=
  (endRead since 24 s).setCache (removeRead k s.cache)

/-- The state after a fill's read with its cell placed. -/
def fillPlaced (k : Key) (cell : Cell) (since : Instant) (s : State) : State :=
  (endRead since 24 s).setCache (placeCell k cell (removeRead k s.cache))

theorem exec_fillComplete {k : Key} {cell : Cell} {since : Instant} {e : FillEntry} {s : State}
    (port : s.store.port = some ⟨.fill k cell, since⟩) (read : readEntry k s.cache = some e) :
    exec .fillComplete s = answer (if (s.active k.kind).map ActiveTable.generation = some e.generation
      then handCell k cell (fillPlaced k cell since s) else fillTaken k since s) := by
  have finish : finishFill k cell (endRead since 24 s) =
      if (s.active k.kind).map ActiveTable.generation = some e.generation
        then handCell k cell (fillPlaced k cell since s) else fillTaken k since s := by
    have tag : activeGeneration k.kind ((endRead since 24 s).setCache (removeRead k (endRead since 24 s).cache)) =
        (s.active k.kind).map ActiveTable.generation := by
      cases k.kind <;> rfl
    have found : readEntry k (endRead since 24 s).cache = some e := read
    simp only [finishFill, found, tag, Option.map_some, Option.isSome_some, Bool.true_and, decide_eq_true_eq,
      eq_comm (a := some e.generation)]
    rfl
  show execFillComplete s = _
  simp only [execFillComplete, port, finish]

theorem setsOk_of_cacheLaw {s : State} (law : CacheLaw s) : SetsOk s.cache.sets := ((cacheLaw_iff s).1 law).1

/-- What a fill's cell does to the computation that awaits it. -/
theorem receiveCell_cases (k : Key) (cell : Cell) (now : Instant) {e : Entry} {c : Computation} (g : Engine)
    (computing : e.progress = .computing c) :
    (0 < instantDiff now e.cutoff → receiveCell k cell now e c g = (e, g)) ∧
    (instantDiff now e.cutoff ≤ 0 → (c.receive k cell).settled = false →
      receiveCell k cell now e c g = ({ e with progress := .computing (c.receive k cell) }, g)) ∧
    (instantDiff now e.cutoff ≤ 0 → (c.receive k cell).settled = true →
      receiveCell k cell now e c g = endComputation e (c.receive k cell) g) := by
  unfold receiveCell
  refine ⟨fun late => ?_, fun early waits => ?_, fun early settled => ?_⟩
  · rw [if_pos late, ← computing]
  · rw [if_neg (by omega), waits]
    rfl
  · rw [if_neg (by omega), settled]
    rfl

/-- A fill of another generation ends. -/
theorem fillDiscarded (k : Key) (since : Instant) (s : State) : (settle (fillTaken k since s)).now =
      laterOf (addInterval since 24) s.now ∧ (settle (fillTaken k since s)).store = { s.store with port := none } ∧
    (settle (fillTaken k since s)).cache = removeRead k s.cache ∧ (settle (fillTaken k since s)).engine = s.engine ∧
    (settle (fillTaken k since s)).timing.frames = s.timing.frames ∧
    (settle (fillTaken k since s)).links = s.links := by
  simp [fillTaken, endRead]

theorem timing_handCell (k : Key) (cell : Cell) (s : State) :
    (handCell k cell s).timing = { s.timing with frames := (handCell k cell s).timing.frames } := rfl

theorem now_handCell (k : Key) (cell : Cell) (s : State) : (handCell k cell s).now = s.now := by
  rw [State.now, timing_handCell]
  rfl

theorem now_fillPlaced (k : Key) (cell : Cell) (since : Instant) (s : State) :
    (fillPlaced k cell since s).now = laterOf (addInterval since 24) s.now := now_advanceTo _ s

/-- A fill of the active generation ends. -/
theorem rest_fillPlaced (k : Key) (cell : Cell) (since : Instant) (s : State) :
    let u := settle (handCell k cell (fillPlaced k cell since s))
    u.now = laterOf (addInterval since 24) s.now ∧ u.store = { s.store with port := none } ∧
      u.cache = placeCell k cell (removeRead k s.cache) ∧
      u.timing = { s.timing with timebase := laterOf (addInterval since 24) s.now, frames := u.timing.frames } ∧
      u.links = s.links ∧ u.auth = s.auth := by
  refine ⟨?_, by simp [fillPlaced, endRead], by simp [fillPlaced, endRead], ?_, by simp [fillPlaced, endRead],
    by simp [fillPlaced, endRead]⟩
  · rw [now_settle, now_handCell, now_fillPlaced]
  · simp only [settle_frame]
    exact timing_handCell k cell (fillPlaced k cell since s)

/-- What a placed fill writes of the timing and of the engine, when it hands its cell to no computation. -/
theorem handed_of_none (k : Key) (cell : Cell) (since : Instant) {s : State}
    (still : ∀ x ∈ s.timing.frames, ∀ c, x.progress ≠ .computing c) :
    (handCell k cell (fillPlaced k cell since s)).timing.frames = s.timing.frames ∧
      (handCell k cell (fillPlaced k cell since s)).engine = s.engine := by
  rw [handCell_eq, onComputing_of_none _ (s := fillPlaced k cell since s) still]
  exact ⟨rfl, rfl⟩

/-- What a placed fill writes of the timing and of the engine, when it hands its cell to a computation. -/
theorem handed_of_computing (k : Key) (cell : Cell) (since : Instant) {s : State} {done rest : List Entry} {x : Entry}
    {c : Computation} (frames : s.timing.frames = done ++ x :: rest) (ready : ∀ d ∈ done, ∃ r, d.progress = .ready r)
    (computing : x.progress = .computing c) {y : Entry} {g : Engine}
    (received : receiveCell k cell (laterOf (addInterval since 24) s.now) x c s.engine = (y, g)) :
    (handCell k cell (fillPlaced k cell since s)).timing.frames = done ++ y :: rest ∧
      (handCell k cell (fillPlaced k cell since s)).engine = g := by
  rw [handCell_eq, now_fillPlaced, onComputing_append _ (s := fillPlaced k cell since s) frames ready computing]
  have received : receiveCell k cell (laterOf (addInterval since 24) s.now) x c
    (fillPlaced k cell since s).engine = (y, g) := received
  rw [received]
  exact ⟨rfl, rfl⟩

/-! ### WALK_READ_COMPLETE (R96, R97) -/

theorem exec_walkReadComplete {k : Key} {cell : Cell} {g : Nat} {dropped : Bool} {since : Instant} {s : State}
    (port : s.store.port = some ⟨.walk k cell g dropped, since⟩) : exec .walkReadComplete s =
      answer (finishWalkRead k cell g dropped (endRead since 24 s)) := by
  show execWalkReadComplete s = _
  simp only [execWalkReadComplete, port]

theorem finishWalkRead_of_good {k : Key} {cell : Cell} {g : Nat} {s : State} (walking : s.cache.walk.state = .walking)
    (good : (s.active k.kind).map ActiveTable.generation = some g) : finishWalkRead k cell g false s =
      walkAdvance (s.setCache { placeLocked k cell s.cache with
        walk := { s.cache.walk with rest := s.cache.walk.rest.drop 1, locked := s.cache.walk.locked + 1 } }) := by
  have tag : activeGeneration k.kind s = some g := good
  have walk : (placeLocked k cell s.cache).walk = s.cache.walk := walk_placeCell k cell s.cache
  simp [finishWalkRead, walking, tag, walk]

theorem finishWalkRead_of_other {k : Key} {cell : Cell} {g : Nat} {s : State} (walking : s.cache.walk.state = .walking)
    (other : (s.active k.kind).map ActiveTable.generation ≠ some g) : finishWalkRead k cell g false s =
      walkAdvance (s.setCache { s.cache with
        walk := { s.cache.walk with rest := s.cache.walk.rest.drop 1, skipped := s.cache.walk.skipped + 1 } }) := by
  have tag : ¬ some g = activeGeneration k.kind s := fun same => other same.symm
  simp [finishWalkRead, walking, tag]

theorem finishWalkRead_of_stopped (k : Key) (cell : Cell) (g : Nat) {dropped : Bool} {s : State}
    (stopped : dropped = true ∨ s.cache.walk.state ≠ .walking) : finishWalkRead k cell g dropped s = s := by
  rw [finishWalkRead, if_pos (by simpa using stopped)]

/-! ### READ_STORE_READ_END (R79) -/

theorem exec_readStoreReadEnd {r : ReadRequest} {dropped : Bool} {since : Instant} {s : State}
    (port : s.store.port = some ⟨.readStore r dropped, since⟩) : exec .readStoreReadEnd s =
      answer (if dropped then endRead since 40 s
        else Machine.answerReadStore (0 :: readBytes r (endRead since 40 s)) (endRead since 40 s)) := by
  show execReadStoreReadEnd s = _
  simp only [execReadStoreReadEnd, port]

theorem readBytes_endRead (r : ReadRequest) (since : Instant) (s : State) : readBytes r (endRead since 40 s) =
    (List.range r.count).map fun i => flashRead s.store.flash (65536 * r.sector.toNat + r.offset.toNat + i) := rfl

/-- Settles O34: `finishFill` with the cell placed and handed on, `finishWalkRead`, and the READ STORE's reply. -/
theorem portReadsEnd : Obligations.PortReadsEnd := by
  refine ⟨fun k cell since e s port read => ⟨fun other => ?discarded, fun same => ?placed⟩,
    fun k ks cell g dropped since s port => ⟨fun live walking rest good => ?good, fun live walking rest other => ?other,
      fun stopped => ?stopped⟩, fun r dropped since s port => ?readStore⟩
  case discarded =>
    have meaning := exec_fillComplete port read
    rw [if_neg other] at meaning
    exact ⟨_, meaning, fillDiscarded k since s⟩
  case placed =>
    have meaning := exec_fillComplete port read
    rw [if_pos same] at meaning
    obtain ⟨now, store, cache, timing, links, auth⟩ := rest_fillPlaced k cell since s
    have still := fun none => handed_of_none k cell since (s := s) none
    have handed := fun done rest x c y g frames ready computing => handed_of_computing k cell since (s := s)
      (done := done) (rest := rest) (x := x) (c := c) (y := y) (g := g) frames ready computing
    generalize handCell k cell (fillPlaced k cell since s) = u at *
    generalize addInterval since 24 = n at *
    refine ⟨_, meaning, now, store, cache, fun law enabled => ?_, timing, fun none => ?_,
      fun done rest x c frames ready computing => ?_, links, auth⟩
    · rw [cache]
      exact cachedCell_placeCell cell (setsOk_of_cacheLaw law) enabled
    · simpa only [settle_frame] using still none
    · intro got c' d
      have received : c.receive k cell = c' := receive_eq k cell c
      obtain ⟨late, waits, settled⟩ := receiveCell_cases k cell (laterOf n s.now) s.engine computing
      rw [received] at waits settled
      have handed := fun y g => handed done rest x c y g frames ready computing
      rw [now]
      simp only [settle_frame]
      refine ⟨fun after => ?_, fun before unsettled => ?_, fun before all => ?_⟩
      · rw [frames]
        exact handed _ _ (late after)
      · exact handed _ _ (waits before unsettled)
      · exact handed _ _ (settled before all)
  case good =>
    subst live
    rw [exec_walkReadComplete port, finishWalkRead_of_good (s := endRead since 24 s) walking good]
    have tail : (endRead since 24 s).cache.walk.rest.drop 1 = ks := congrArg (List.drop 1) rest
    rw [tail]
    rfl
  case other =>
    subst live
    rw [exec_walkReadComplete port, finishWalkRead_of_other (s := endRead since 24 s) walking other]
    have tail : (endRead since 24 s).cache.walk.rest.drop 1 = ks := congrArg (List.drop 1) rest
    rw [tail]
    rfl
  case stopped =>
    rw [exec_walkReadComplete port, finishWalkRead_of_stopped (s := endRead since 24 s) k cell g stopped]
    rfl
  case readStore =>
    intro b u reply
    rw [exec_readStoreReadEnd port, readBytes_endRead]
    cases dropped <;> rfl

end Sys2Proof.Machine
end

section
/-! PROOF. The encoder front end: the sampling instants (R3) and the axis state machine (R6 to R8, R12). -/

namespace Sys2Proof.Machine

/-! ### SAMPLING_INSTANT (R3) -/

theorem get_startRead (s : State) (i : Instant) (a : Axis) : (s.front.axes.mapAxes (startRead s i)).get a =
    { s.front.axes.get a with reading := if s.fitted a then some i else (s.front.axes.get a).reading } := by
  rw [get_mapAxes, startRead]
  split <;> rfl

/-- Settles O22: `startRead` on each axis, none of which has a read in progress. -/
theorem samplingStartsReads : Obligations.SamplingStartsReads := by
  intro i s next idle
  have still : anyReading s.front = false := by
    have focus := idle .focus
    have zoom := idle .zoom
    have iris := idle .iris
    simp only [PerAxis.get] at focus zoom iris
    simp [anyReading, focus, zoom, iris]
  have meaning : exec .samplingInstant s = answer ((advanceTo i s).setFront { s.front with
      axes := s.front.axes.mapAxes (startRead s i), nextSampling := some (addInterval i 500) }) := by
    show execSamplingInstant s = _
    simp only [execSamplingInstant, next, still, Bool.false_eq_true, if_false]
  generalize addInterval i 500 = later at meaning ⊢
  refine ⟨_, meaning, by simp, by simp, by simp, fun a => ?_, by simp, by simp, by simp, by simp, by simp, by simp⟩
  simp [get_startRead, idle a]

/-! ### ENCODER_READ_COMPLETE (R6 to R8, R12) -/

/-- The axis after a filed sample, before its record is rewritten (R6, R8). -/
def steppedAxis (x : Sample) (u : AxisUnit) : AxisUnit :=
  axisStep x.valid { u with ring := fileSample x u.ring, reading := none }

theorem applySample_of_invalid (a : Axis) {x : Sample} (invalid : x.valid = false) (s : State) :
    applySample a x s = s.setFront (s.front.setAxis a (steppedAxis x (s.front.axes.get a))) := by
  simp [applySample, invalid, steppedAxis]

theorem applySample_of_noMap (a : Axis) {x : Sample} {s : State} (valid : x.valid = true)
    (noMap : s.front.mapCopy = none) : applySample a x s = s.setFront (s.front.setAxis a
      { steppedAxis x (s.front.axes.get a) with latest := some ⟨x.instant, x.count, none⟩ }) := by
  simp [applySample, valid, noMap, steppedAxis]

theorem applySample_of_map (a : Axis) {x : Sample} {s : State} {m : MapCopy} (valid : x.valid = true)
    (copy : s.front.mapCopy = some m) : applySample a x s =
      noteConversion a (outsideOf (m.maps.get a) x.count.toNat) (s.setFront (s.front.setAxis a
        { steppedAxis x (s.front.axes.get a) with
          latest := some ⟨x.instant, x.count, some (convert a (m.maps.get a) x.count.toNat)⟩ })) := by
  simp [applySample, valid, copy, steppedAxis]

theorem outsideMap_axisStep (valid : Bool) (u : AxisUnit) : (axisStep valid u).outsideMap = u.outsideMap := by
  unfold axisStep
  split
  case h_5 | h_8 | h_9 => split <;> rfl
  all_goals rfl

/-- A filed sample moves the state and the runs as the table of R8 gives, whatever becomes of the record. -/
theorem runs_applySample (a : Axis) (x : Sample) (s : State) :
    ((applySample a x s).front.axes.get a).state = (steppedAxis x (s.front.axes.get a)).state ∧
    ((applySample a x s).front.axes.get a).invalidRun = (steppedAxis x (s.front.axes.get a)).invalidRun ∧
    ((applySample a x s).front.axes.get a).validRun = (steppedAxis x (s.front.axes.get a)).validRun := by
  cases valid : x.valid with
  | false => simp [applySample_of_invalid a valid]
  | true =>
    cases copy : s.front.mapCopy with
    | none => simp [applySample_of_noMap a valid copy]
    | some m => simp [applySample_of_map a valid copy, axes_noteConversion]

/-- The table of R8 after a valid sample of a fitted axis. -/
theorem steppedAxis_valid {x : Sample} {u : AxisUnit} (law : AxisUnitLaw true u) (valid : x.valid = true) :
    (u.state = .lost ∧ u.validRun = 0 → (steppedAxis x u).state = .lost ∧ (steppedAxis x u).validRun = 1) ∧
    (u.state ≠ .lost ∨ u.validRun = 1 → (steppedAxis x u).state = .live ∧ (steppedAxis x u).invalidRun = 0 ∧
      (steppedAxis x u).validRun = 0) := by
  obtain ⟨-, -, absent, runs⟩ := law
  cases current : u.state <;> simp only [current] at absent runs
  case absent => simp at absent
  case lost =>
    refine ⟨fun ⟨_, first⟩ => ?_, fun second => ?_⟩
    · simp [steppedAxis, axisStep, current, valid, first]
    · have second : u.validRun = 1 := by simpa using second
      simp [steppedAxis, axisStep, current, valid, second]
  all_goals simp [steppedAxis, axisStep, current, valid, runs]

/-- The table of R8 after an invalid sample of a fitted axis. -/
theorem steppedAxis_invalid {x : Sample} (u : AxisUnit) (invalid : x.valid = false) :
    (u.state = .live → (steppedAxis x u).state = .stale ∧ (steppedAxis x u).invalidRun = 1) ∧
    ((u.state = .seeking ∨ u.state = .stale) ∧ u.invalidRun < 7 →
      (steppedAxis x u).state = u.state ∧ (steppedAxis x u).invalidRun = u.invalidRun + 1) ∧
    (((u.state = .seeking ∨ u.state = .stale) ∧ u.invalidRun = 7) ∨ u.state = .lost →
      (steppedAxis x u).state = .lost ∧ (steppedAxis x u).invalidRun = 8 ∧ (steppedAxis x u).validRun = 0) := by
  refine ⟨fun live => ?_, fun ⟨waits, few⟩ => ?_, fun lost => ?_⟩
  · simp [steppedAxis, axisStep, live, invalid]
  · have below : ¬ 8 ≤ u.invalidRun + 1 := by omega
    rcases waits with current | current <;> simp [steppedAxis, axisStep, current, invalid, below]
  · rcases lost with ⟨current | current, eight⟩ | current
    · simp [steppedAxis, axisStep, current, invalid, eight]
    · simp [steppedAxis, axisStep, current, invalid, eight]
    · simp [steppedAxis, axisStep, current, invalid]

/-- What a valid sample writes of its axis without a map copy. -/
theorem written_applySample_of_noMap (a : Axis) {x : Sample} {s : State} (valid : x.valid = true)
    (noMap : s.front.mapCopy = none) :
    ((applySample a x s).front.axes.get a).latest = some ⟨x.instant, x.count, none⟩ ∧
    ((applySample a x s).front.axes.get a).outsideMap = (s.front.axes.get a).outsideMap ∧
    Latches 0 0 s (applySample a x s) := by
  rw [applySample_of_noMap a valid noMap]
  exact ⟨by simp, by simp [steppedAxis, outsideMap_axisStep], latches_of_same rfl⟩

/-- What a valid sample writes of its axis through a map copy. -/
theorem written_applySample_of_map (a : Axis) {x : Sample} {s : State} {m : MapCopy} (valid : x.valid = true)
    (copy : s.front.mapCopy = some m) :
    let outside := outsideOf (m.maps.get a) x.count.toNat
    ((applySample a x s).front.axes.get a).latest =
      some ⟨x.instant, x.count, some (convert a (m.maps.get a) x.count.toNat)⟩ ∧
    ((applySample a x s).front.axes.get a).outsideMap = outside ∧
    Latches (maskIf outside .axisRange) (maskIf outside .axisRange) s (applySample a x s) := by
  rw [applySample_of_map a valid copy]
  refine ⟨by simp [axes_noteConversion], by simp [axes_noteConversion], ?_⟩
  exact (latches_raiseIf _ .axisRange _).same_before rfl

/-- What an invalid sample leaves of its axis. -/
theorem written_applySample_of_invalid (a : Axis) {x : Sample} (invalid : x.valid = false) (s : State) :
    ((applySample a x s).front.axes.get a).latest = (s.front.axes.get a).latest ∧
    ((applySample a x s).front.axes.get a).outsideMap = (s.front.axes.get a).outsideMap ∧
    Latches 0 0 s (applySample a x s) := by
  rw [applySample_of_invalid a invalid]
  exact ⟨by simp [steppedAxis, latest_axisStep], by simp [steppedAxis, outsideMap_axisStep], latches_of_same rfl⟩

/-- The count of a valid sample, as the obligation writes it. -/
theorem sampleOf_count {bits : BitVec 16} (valid : answerValid bits = true) (high : Bool) (i : Instant) :
    (sampleOf high i bits).count = BitVec.ofNat 14 (if high then 16383 - bits.toNat / 4 else bits.toNat / 4) := by
  refine BitVec.eq_of_toNat_eq ?_
  rw [sampleOf_count_of_valid valid, BitVec.toNat_ofNat, Nat.mod_eq_of_lt]
  split <;> omega

/-- Settles O24: `axisStep`, and the record and OUTSIDE_MAP that `applySample` writes. -/
theorem sampleMovesAxisState : Obligations.SampleMovesAxisState := by
  intro a bits i s law reading u c
  have fitted : s.fitted a = true := (law a).2.1 (by rw [reading]; rfl)
  have unit : AxisUnitLaw true u := fitted ▸ law a
  have meaning := exec_encoderReadComplete reading bits
  generalize addInterval i 20 = n at meaning
  have validity : (sampleOf (senseHigh s.seq.straps a) i bits).valid = answerValid bits := sampleOf_valid _ _ _
  have instant : (sampleOf (senseHigh s.seq.straps a) i bits).instant = i := sampleOf_instant _ _ _
  have count : answerValid bits = true → (sampleOf (senseHigh s.seq.straps a) i bits).count = c :=
    fun valid => sampleOf_count valid _ _
  generalize sampleOf (senseHigh s.seq.straps a) i bits = x at meaning validity instant count
  obtain ⟨state, invalidRun, validRun⟩ := runs_applySample a x (advanceTo n s)
  refine ⟨_, meaning, fun valid => ?valid, fun invalid => ?invalid⟩
  case valid =>
    have filed : x.valid = true := validity.trans valid
    have count := count valid
    obtain ⟨first, second⟩ := steppedAxis_valid unit filed
    refine ⟨fun noMap => ?_, fun m copy => ?_, fun lost => ?_, fun found => ?_⟩
    · obtain ⟨latest, outside, raised⟩ := written_applySample_of_noMap a (s := advanceTo n s) filed noMap
      rw [instant, count] at latest
      simp only [settle_frame]
      exact ⟨latest, outside, raised.settle⟩
    · obtain ⟨latest, outside, raised⟩ := written_applySample_of_map a (s := advanceTo n s) filed copy
      rw [instant, count] at latest
      rw [count] at outside raised
      simp only [settle_frame]
      exact ⟨latest, outside, raised.settle⟩
    · simp only [settle_frame, state, validRun]
      exact first lost
    · simp only [settle_frame, state, invalidRun, validRun]
      exact second found
  case invalid =>
    have filed : x.valid = false := validity.trans invalid
    obtain ⟨latest, outside, raised⟩ := written_applySample_of_invalid a filed (advanceTo n s)
    simp only [settle_frame, state, invalidRun, validRun]
    exact ⟨latest, outside, raised.settle, steppedAxis_invalid u filed⟩

end Sys2Proof.Machine
end

section
/-! PROOF. Conversion (R11, R12) and the predictor (R36 to R47). -/

namespace Sys2Proof.Machine

/-! ### Rounding and clamping (R1) -/

@[simp] theorem roundDiv_zero (d : Nat) : roundDiv 0 d = 0 := by simp [roundDiv]

theorem toNat_clampInt_le (v : Int) {lo hi : Nat} (order : lo ≤ hi) :
    lo ≤ (clampInt lo hi v).toNat ∧ (clampInt lo hi v).toNat ≤ hi := by
  rw [clampInt_eq (by omega)]
  omega

theorem convert_le (a : Axis) (m : AxisMap) (c : Nat) :
    convert a m c ≤ (match a with | .focus => 20000 | .zoom => 65534 | .iris => 200) := by
  unfold convert unitClamp
  cases a
  · exact (toNat_clampInt_le (lo := 0) (hi := 20000) _ (by omega)).2
  · exact (toNat_clampInt_le (lo := 1) (hi := 65534) _ (by omega)).2
  · exact (toNat_clampInt_le (lo := 0) (hi := 200) _ (by omega)).2

theorem one_le_convert_zoom (m : AxisMap) (c : Nat) : 1 ≤ convert .zoom m c :=
  (toNat_clampInt_le (lo := 1) (hi := 65534) _ (by omega)).1

/-! ### The segments of a map (R11, R12) -/

/-- The breakpoints of a map, which rise. -/
def AxisMap.points (m : AxisMap) : List Breakpoint := m.first :: m.rest

/-- Breakpoints of rising counts. -/
def CountsRise (bs : List Breakpoint) : Prop := bs.Pairwise fun p q => p.count < q.count

theorem last_of_append {m : AxisMap} {before : List Breakpoint} {y : Breakpoint} (split : m.points = before ++ [y]) :
    m.last = y := by
  have last : m.points.getLast? = some y := by rw [split, List.getLast?_concat]
  rw [AxisMap.points, List.getLast?_cons] at last
  simpa [AxisMap.last] using last

theorem count_le_last {m : AxisMap} (rise : CountsRise m.points) {b : Breakpoint} (mem : b ∈ m.points) :
    b.count ≤ m.last.count := by
  have split : m.points = m.points.dropLast ++ [m.points.getLast (List.cons_ne_nil _ _)] :=
    (List.dropLast_append_getLast _).symm
  have last := last_of_append split
  rw [CountsRise, split, List.pairwise_append] at rise
  obtain ⟨-, -, rise⟩ := rise
  rw [split, ← last] at mem
  rcases List.mem_append.1 mem with inside | here
  · exact (rise b inside m.last (by simp [last])).le
  · rw [List.mem_singleton.1 here]

theorem first_le_count {m : AxisMap} (rise : CountsRise m.points) {b : Breakpoint} (mem : b ∈ m.points) :
    m.first.count ≤ b.count := by
  rcases List.mem_cons.1 mem with here | inside
  · rw [here]
  · exact ((List.pairwise_cons.1 rise).1 b inside).le

/-- A count above a breakpoint is looked up from that breakpoint on. -/
theorem segmentValue_after {a x : Breakpoint} {rest before post : List Breakpoint} {c : Nat}
    (rise : CountsRise (a :: rest)) (split : a :: rest = before ++ x :: post) (above : x.count < c) :
    segmentValue a rest c = segmentValue x post c := by
  induction before generalizing a rest with
  | nil =>
    obtain ⟨rfl, rfl⟩ := List.cons.inj split
    rfl
  | cons b before ih =>
    obtain ⟨rfl, tail⟩ := List.cons.inj split
    obtain ⟨r, rs, next⟩ : ∃ r rs, before ++ x :: post = r :: rs := List.exists_cons_of_ne_nil (by simp)
    have tail : rest = r :: rs := tail.trans next
    rw [tail] at rise ⊢
    have rise : CountsRise (r :: rs) := (List.pairwise_cons.1 rise).2
    have below : r.count ≤ x.count := by
      have mem : x ∈ r :: rs := next ▸ by simp
      rcases List.mem_cons.1 mem with here | inside
      · rw [here]
      · exact ((List.pairwise_cons.1 rise).1 x inside).le
    rw [segmentValue, if_neg (by omega)]
    exact ih rise next.symm

theorem outsideOf_eq_false_iff (m : AxisMap) (c : Nat) : outsideOf m c = false ↔ m.first.count ≤ c ∧
    c ≤ m.last.count := by
  simp [outsideOf]

/-- Inside a segment. -/
theorem convert_of_segment (a : Axis) {m : AxisMap} {before rest : List Breakpoint} {x y : Breakpoint} {c : Nat}
    (rise : CountsRise m.points) (split : m.points = before ++ x :: y :: rest) (above : x.count < c)
    (inside : c ≤ y.count) : outsideOf m c = false ∧ convert a m c = unitClamp a (x.value +
      roundDiv (((y.value : Int) - x.value) * ((c : Int) - x.count)) (y.count - x.count)) := by
  have first := first_le_count rise (b := x) (by simp [split])
  have last := count_le_last rise (b := y) (by simp [split])
  refine ⟨(outsideOf_eq_false_iff m c).2 ⟨by omega, by omega⟩, ?_⟩
  rw [convert, if_neg (by omega), segmentValue_after rise split above, segmentValue, if_pos inside]

/-- At the first breakpoint. -/
theorem convert_of_first (a : Axis) {m : AxisMap} (rise : CountsRise m.points) :
    outsideOf m m.first.count = false ∧ convert a m m.first.count = unitClamp a m.first.value := by
  have first : m.first ∈ m.points := List.mem_cons_self
  refine ⟨(outsideOf_eq_false_iff _ _).2 ⟨le_refl _, count_le_last rise first⟩, ?_⟩
  rw [convert, if_neg (by omega)]
  cases rest : m.rest with
  | nil => rfl
  | cons b bs =>
    have next := first_le_count rise (b := b) (by simp [AxisMap.points, rest])
    rw [segmentValue, if_pos next]
    simp

/-- Below the map. -/
theorem convert_of_below (a : Axis) {m : AxisMap} {c : Nat} (below : c < m.first.count) :
    outsideOf m c = true ∧ convert a m c = unitClamp a m.first.value := by
  rw [convert, if_pos below]
  exact ⟨by simp [outsideOf, below], rfl⟩

/-- Above the map. -/
theorem convert_of_above (a : Axis) {m : AxisMap} {before : List Breakpoint} {y : Breakpoint} {c : Nat}
    (rise : CountsRise m.points) (split : m.points = before ++ [y]) (above : y.count < c) :
    outsideOf m c = true ∧ convert a m c = unitClamp a y.value := by
  have last := last_of_append split
  have first := first_le_count rise (b := y) (by simp [split])
  refine ⟨by simp [outsideOf, last, above], ?_⟩
  rw [convert, if_neg (by omega), segmentValue_after rise split above]
  rfl

/-! ### The velocity (R39) -/

theorem mem_of_nearestSample {t : Instant} {xs : List Sample} {y : Sample} (nearest : nearestSample t xs = some y) :
    y ∈ xs := by
  induction xs generalizing y with
  | nil => cases nearest
  | cons x xs ih =>
    unfold nearestSample at nearest
    split at nearest
    case h_1 =>
      cases nearest
      exact List.mem_cons_self
    case h_2 z found =>
      split at nearest <;> cases nearest
      · exact List.mem_cons_self
      · exact List.mem_cons_of_mem _ (ih found)

/-- The nearest sample: nearer than those before it, and as near as those after it. -/
theorem nearestSample_append {t : Instant} {pre post : List Sample} {x : Sample}
    (before : ∀ y ∈ pre, instantGap x.instant t < instantGap y.instant t)
    (after : ∀ y ∈ post, instantGap x.instant t ≤ instantGap y.instant t) :
    nearestSample t (pre ++ x :: post) = some x := by
  induction pre with
  | nil =>
    show nearestSample t (x :: post) = some x
    unfold nearestSample
    split
    case h_1 => rfl
    case h_2 y found => rw [if_pos (after y (mem_of_nearestSample found))]
  | cons p pre ih =>
    have rest := ih fun y mem => before y (List.mem_cons_of_mem _ mem)
    have nearer := before p List.mem_cons_self
    rw [List.cons_append, nearestSample, rest]
    exact if_neg (by omega)

theorem velocityFollowsRing (ms0 : MS0) (before : List Sample) (newest : Sample) :
    VelocityFollowsRing ms0 before newest (velocityOf ms0.span ms0.deadband (before ++ [newest])) := by
  have velocity : velocityOf ms0.span ms0.deadband (before ++ [newest]) =
      match nearestSample (subInterval newest.instant ms0.span) before with
      | none => none
      | some x => if (countDiff newest.count x.count).natAbs ≤ ms0.deadband then none else some (x, newest) := by
    rw [velocityOf, List.getLast?_concat, List.dropLast_concat] <;> rfl
  refine ⟨fun none => ?_, fun pre x post split nearer near => ?_⟩
  · rw [velocity, none]
    rfl
  · rw [velocity, split, nearestSample_append nearer near]
    rfl

/-! ### The count (R38, R40 to R43) -/

theorem toNat_clampCount (v : Int) : ((clampCount v).toNat : Int) = max 0 (min 16383 v) := by
  rw [clampCount, clampInt_eq (by decide), BitVec.toNat_ofNat, Nat.mod_eq_of_lt (by omega)]
  omega

theorem toNat_count (c : Count) : (c.toNat : Int) = max 0 (min 16383 (c.toNat : Int)) := by
  have := c.isLt
  omega

theorem onLine_extrapolate (horizon : Nat) (t : Instant) (newest x y : Sample) : OnLine newest x y
    (min (instantDiff t newest.instant).toNat horizon : Nat) (extrapolate horizon t newest (some (x, y))) := by
  unfold OnLine
  by_cases none : horizon = 0
  · simpa [extrapolate, none] using toNat_count newest.count
  · rw [extrapolate, if_neg none]
    exact toNat_clampCount _

theorem instantDiff_self (t : Instant) : instantDiff t t = 0 := by simp [instantDiff]

theorem interpolate_of_sample {t : Instant} {pre post : List Sample} {x newest : Sample}
    (other : ∀ y ∈ pre, y.instant ≠ t) (here : x.instant = t) :
    interpolate t (pre ++ x :: post) newest = x.count := by
  have found : (pre ++ x :: post).find? (fun x => decide (x.instant = t)) = some x := by
    rw [List.find?_append, List.find?_eq_none.2 fun y mem => by simpa using other y mem,
      List.find?_cons_of_pos (by simpa using here)]
    rfl
  simp only [interpolate, found]

theorem onLine_interpolate {t : Instant} {pre post : List Sample} {x y newest : Sample}
    (before : ∀ z ∈ pre ++ [x], instantDiff z.instant t < 0) (after : ∀ z ∈ y :: post, 0 < instantDiff z.instant t) :
    OnLine x x y (instantDiff t x.instant) (interpolate t (pre ++ x :: y :: post) newest) := by
  have split : pre ++ x :: y :: post = (pre ++ [x]) ++ y :: post := by simp
  have apart {z : Sample} (differs : instantDiff z.instant t ≠ 0) : z.instant ≠ t := fun same =>
    differs (by rw [same, instantDiff_self])
  have none : (pre ++ x :: y :: post).find? (fun x => decide (x.instant = t)) = none := by
    rw [split]
    refine List.find?_eq_none.2 fun z mem => ?_
    rcases List.mem_append.1 mem with mem | mem
    · simpa using apart (before z mem).ne
    · simpa using apart (after z mem).ne'
  have last : ((pre ++ x :: y :: post).filter fun x => decide (instantDiff x.instant t < 0)).getLast? = some x := by
    have kept : (pre ++ [x]).filter (fun x => decide (instantDiff x.instant t < 0)) = pre ++ [x] :=
      List.filter_eq_self.2 fun z mem => by simpa using before z mem
    have dropped : (y :: post).filter (fun x => decide (instantDiff x.instant t < 0)) = [] :=
      List.filter_eq_nil_iff.2 fun z mem => by simpa using (after z mem).le
    rw [split, List.filter_append, kept, dropped, List.append_nil, List.getLast?_concat]
  have next : (pre ++ x :: y :: post).find? (fun x => decide (0 < instantDiff x.instant t)) = some y := by
    rw [split, List.find?_append, List.find?_eq_none.2 fun z mem => by simpa using (before z mem).le,
      List.find?_cons_of_pos (by simpa using after y List.mem_cons_self)]
    rfl
  unfold OnLine interpolate
  rw [none, last, next]
  exact toNat_clampCount _

theorem countFollowsRing (ms0 : MS0) (t : Instant) (valid : List Sample) (oldest newest : Sample) :
    CountFollowsRing ms0 t valid oldest newest (ringPrediction ms0 t valid oldest newest) := by
  refine ⟨fun past => ?_, fun inside started => ?_, fun inside early => ?_⟩
  · rw [ringPrediction, if_pos past]
    refine ⟨rfl, fun still => ?_, fun x y moving => ?_⟩
    · have still : velocityOf ms0.span ms0.deadband valid = none := still
      simp only [still, extrapolate]
    · have moving : velocityOf ms0.span ms0.deadband valid = some (x, y) := moving
      rw [moving]
      exact onLine_extrapolate ms0.horizon t newest x y
  · rw [ringPrediction, if_neg (by omega), if_pos started]
    refine ⟨rfl, fun pre x post split other here => ?_, fun pre x y post split before after => ?_⟩
    · rw [split]
      exact interpolate_of_sample other here
    · rw [split]
      exact onLine_interpolate before after
  · rw [ringPrediction, if_neg (by omega), if_neg (by omega)]
    exact ⟨rfl, rfl⟩

theorem velocity_ringPrediction (ms0 : MS0) (t : Instant) (valid : List Sample) (oldest newest : Sample) :
    (ringPrediction ms0 t valid oldest newest).held = false ∧
      (ringPrediction ms0 t valid oldest newest).velocity = velocityOf ms0.span ms0.deadband valid := by
  unfold ringPrediction
  dsimp only
  split
  · exact ⟨rfl, rfl⟩
  · split <;> exact ⟨rfl, rfl⟩

/-! ### The axes and the frame (R37, R43, R45 to R47) -/

theorem predictAxis_held {ms0 : MS0} {t : Instant} {u : AxisUnit} {record : Option Count} {m : AxisMap}
    (held : u.state = .seeking ∨ u.state = .lost) :
    predictAxis ms0 t u record m = heldPrediction record u.latest m := by
  rcases held with state | state <;> simp only [predictAxis, state]

theorem predictAxis_ring {ms0 : MS0} {t : Instant} {u : AxisUnit} {record : Option Count} {m : AxisMap}
    {oldest newest : Sample} (live : u.state = .live ∨ u.state = .stale)
    (first : (validSamples u.ring).head? = some oldest) (last : (validSamples u.ring).getLast? = some newest) :
    predictAxis ms0 t u record m = ringPrediction ms0 t (validSamples u.ring) oldest newest := by
  rcases live with state | state <;> simp only [predictAxis, state, first, last]

theorem heldCount_first (m : AxisMap) : (heldCount none none m).toNat = min 16383 m.first.count := by
  have clamped := toNat_clampCount (m.first.count : Int)
  show (clampCount m.first.count).toNat = _
  omega

theorem axisPrediction_focus (ms0 : MS0) (t : Instant) (copy : MapCopy) (s : State) :
    axisPrediction ms0 t copy s .focus = some (predictAxis ms0 t (s.front.axes.get .focus)
      (s.engine.heldCounts.get .focus) (copy.maps.get .focus)) := rfl

theorem predictedUnits_axisPrediction (a : Axis) (ms0 : MS0) (t : Instant) (copy : MapCopy) (s : State) :
    predictedUnits a copy (axisPrediction ms0 t copy s a) = if s.fitted a
      then convert a (copy.maps.get a) (predictAxis ms0 t (s.front.axes.get a) (s.engine.heldCounts.get a)
        (copy.maps.get a)).count.toNat
      else absentDefault a copy := by
  unfold axisPrediction
  split <;> rfl

/-- What is said of some fitted axis. -/
theorem anyAxis_iff (f : AxisPrediction → Bool) (ms0 : MS0) (t : Instant) (copy : MapCopy) (s : State) :
    (([axisPrediction ms0 t copy s .focus, axisPrediction ms0 t copy s .zoom, axisPrediction ms0 t copy s .iris].any
      fun x => (x.map f).getD false) = true) ↔ ∃ a, s.fitted a = true ∧
        f (predictAxis ms0 t (s.front.axes.get a) (s.engine.heldCounts.get a) (copy.maps.get a)) = true := by
  have each (a : Axis) : ((axisPrediction ms0 t copy s a).map f).getD false = true ↔ s.fitted a = true ∧
      f (predictAxis ms0 t (s.front.axes.get a) (s.engine.heldCounts.get a) (copy.maps.get a)) = true := by
    unfold axisPrediction
    split
    case isTrue fitted => simp [fitted]
    case isFalse absent => simp [absent]
  simp only [List.any_cons, List.any_nil, Bool.or_eq_true, each, Bool.or_false]
  constructor
  · rintro (found | found | found) <;> exact ⟨_, found⟩
  · rintro ⟨a, found⟩
    cases a
    · exact .inl found
    · exact .inr (.inl found)
    · exact .inr (.inr found)

theorem directionOf_eq (m : AxisMap) (v : Option (Sample × Sample)) : (v = none → directionOf m v = .still) ∧
    ∀ x y, v = some (x, y) → directionOf m v =
      if convert .focus m x.count.toNat < convert .focus m y.count.toNat then .rising
      else if convert .focus m y.count.toNat < convert .focus m x.count.toNat then .falling else .still := by
  refine ⟨fun still => ?_, fun x y moving => ?_⟩
  · rw [still]
    rfl
  · rw [moving]
    rfl

/-- Settles O25: `segmentValue` along the breakpoints, `predictAxis` by the axis's state, and `predictFrame`. -/
theorem conversionFollowsTheMap : Obligations.ConversionFollowsTheMap := by
  refine ⟨convert_le, one_le_convert_zoom, fun a m before rest x y c rise split above inside =>
    convert_of_segment a rise split above inside, fun a m rise => convert_of_first a rise,
    fun a m c below => convert_of_below a below, fun a m before y c rise split above =>
      convert_of_above a rise split above, fun ms0 t u record m => ⟨fun held => ?held, fun live => ?live⟩,
    fun ms0 t copy s => ?frame⟩
  case held =>
    rw [predictAxis_held held]
    refine ⟨rfl, rfl, rfl, fun c known => ?_, fun r unknown latest => ?_, fun unknown never => ?_⟩
    · rw [known]
      rfl
    · rw [unknown, latest]
      rfl
    · rw [unknown, never]
      exact heldCount_first m
  case live =>
    intro before oldest newest first split
    have last : (validSamples u.ring).getLast? = some newest := by
      rw [show validSamples u.ring = before ++ [newest] from split, List.getLast?_concat]
    rw [predictAxis_ring live first last]
    obtain ⟨held, velocity⟩ := velocity_ringPrediction ms0 t (validSamples u.ring) oldest newest
    refine ⟨held, ?_, countFollowsRing ms0 t _ oldest newest⟩
    rw [velocity, show validSamples u.ring = before ++ [newest] from split]
    exact velocityFollowsRing ms0 before newest
  case frame =>
    refine ⟨?_, anyAxis_iff _ ms0 t copy s, anyAxis_iff _ ms0 t copy s, (directionOf_eq _ _).1, (directionOf_eq _ _).2⟩
    simp only [predictFrame, axisPrediction_focus, predictedUnits_axisPrediction]
    rfl

end Sys2Proof.Machine
end

section
/-! PROOF. The stream (R19 to R23): what a sync or a stream timeout does to frame timing and to the engine. -/

namespace Sys2Proof.Machine

/-! ### The engine's own moves -/

/-- An engine that is asked to stop: it runs no longer, nothing is staged, the list is empty, and MODE_APPLIED tells of
what was staged (R129). -/
theorem stopIfNeeded_of_not {s : State} (core : EngineCore s) (cannot : mayRun s = false) :
    (stopIfNeeded s).engine.state.runs = false ∧ anyStaged (stopIfNeeded s).engine = false ∧
    (stopIfNeeded s).timing.frames = [] ∧
    Latches (maskIf (anyStaged s.engine) .modeApplied) (maskIf (anyStaged s.engine) .modeApplied) s
    (stopIfNeeded s) := by
  cases running : s.engine.state.runs with
  | true =>
    have leaves : stopIfNeeded s = leaveRunning s := by simp [stopIfNeeded, running, cannot]
    obtain ⟨⟨-, -, quiet⟩, state⟩ := engineCore_leaveRunning s
    have still : (leaveRunning s).engine.state.runs = false := by rw [state]; rfl
    obtain ⟨unstaged, frames⟩ := quiet still
    rw [leaves]
    refine ⟨still, unstaged, frames, ?_⟩
    exact (latches_raiseIf (anyStaged s.engine) .modeApplied _).same_before rfl
  | false =>
    obtain ⟨-, -, quiet⟩ := core
    obtain ⟨unstaged, frames⟩ := quiet running
    have stays : stopIfNeeded s = s := by simp [stopIfNeeded, running]
    rw [stays, unstaged]
    exact ⟨running, rfl, frames, latches_of_same rfl⟩

/-- An engine that neither runs nor may run keeps still through a re-evaluation, and frame timing with it. -/
theorem reevaluate_of_not {s : State} (still : s.engine.state.runs = false) (unlocked : s.timing.stream ≠ .locked) :
    (reevaluate s).timing = s.timing ∧ (reevaluate s).engine.state.runs = false ∧ (reevaluate s).events = s.events := by
  have stays : stopIfNeeded s = s := by simp [stopIfNeeded, still]
  have cannot : mayRun (followConfiguration s) = false := by simp [mayRun, unlocked]
  have waits : startIfReady (followConfiguration s) = followConfiguration s := by simp [startIfReady, cannot]
  rw [reevaluate, stays, waits]
  refine ⟨by simp, ?_, by simp⟩
  rw [runs_followConfiguration]
  exact still

/-- An engine that runs and may go on running keeps still through a re-evaluation (R127). -/
theorem reevaluate_of_running {s : State} (running : s.engine.state.runs = true) (may : mayRun s = true) :
    reevaluate s = s := by
  have stays : stopIfNeeded s = s := by simp [stopIfNeeded, may]
  have follows : followConfiguration s = s := by
    unfold followConfiguration
    cases state : s.engine.state <;> simp only [state, EngineState.runs, Bool.false_eq_true] at running ⊢
  have waits : s.engine.state ≠ .standby := fun standby => by simp [standby, EngineState.runs] at running
  rw [reevaluate, stays, follows, startIfReady]
  simp [waits]

/-! ### A sync with nothing staged (R31, R133) -/

theorem countStaged_of_unstaged {s : State} (unstaged : anyStaged s.engine = false) : countStaged s = s := by
  simp only [anyStaged, Bool.or_eq_false_iff] at unstaged
  obtain ⟨⟨⟨ms0, ms1⟩, ms2⟩, ms3⟩ := unstaged
  have early {α : Type} {m : ModeSet α} (none : m.isStaged = false) : m.dueAtSync = false := by
    unfold ModeSet.isStaged at none
    unfold ModeSet.dueAtSync
    split
    · next x staged => simp [staged] at none
    · rfl
  have due : anyDueAtSync s.engine = false := by simp [anyDueAtSync, early ms0, early ms1, early ms2, early ms3]
  simp only [countStaged, ModeSet.onSync_of_unstaged, ms0, ms1, ms2, ms3, due, early ms3]
  rfl

theorem decideSync_of_still {s : State} (still : s.engine.state.runs = false) : decideSync s = skipSync s := by
  unfold decideSync
  split
  · rw [if_neg (by simp [still])]
  · rfl

/-- What follows a sync that an engine which neither runs nor may run does not take (R30, R31). -/
theorem afterSync_of_still {s : State} (still : s.engine.state.runs = false) (unstaged : anyStaged s.engine = false) :
    afterSync s = reevaluate (skipSync s) := by
  rw [afterSync, countStaged_of_unstaged unstaged, decideSync_of_still still]

/-! ### The verdict on an edge (R19 to R21) -/

theorem exec_syncEdge {s : State} (free : s.isHeld = false) (t : Instant) :
    exec (.syncEdge t) s = answer (applyEdge (advanceTo t s)) := by
  show execSyncEdge t s = _
  simp [execSyncEdge, free]

theorem judgeEdge_of_last {s : State} {i : Instant} (stream : s.timing.stream ≠ .noStream)
    (last : s.timing.lastSync = some i) : judgeEdge s = if instantDiff s.now i < 2000 then .rejected
      else if instantDiff s.now i ≤ 1000000 then .locks (instantDiff s.now i).toNat else .acquires := by
  unfold judgeEdge
  rw [last]
  cases current : s.timing.stream
  · exact absurd current stream
  · rfl
  · rfl

theorem judgeEdge_of_noStream {s : State} (stream : s.timing.stream = .noStream) : judgeEdge s = .acquires := by
  simp only [judgeEdge, stream]

theorem applyEdge_of_acquires {s : State} (verdict : judgeEdge s = .acquires) :
    applyEdge s = afterSync (beginAcquisition s) := by
  simp only [applyEdge, verdict]

theorem applyEdge_of_locks {s : State} {n : Nat} (verdict : judgeEdge s = .locks n) :
    applyEdge s = afterSync (lockStream n s) := by
  simp only [applyEdge, verdict]

/-! ### An acquisition (R20, R21, R23, R31) -/

/-- Frame timing as an acquisition begins at an instant. -/
def acquiringAt (n : Instant) (t : Timing) : Timing :=
  { t with timebase := n, stream := .acquiring, lastSync := some n, period := 0, frameNumber := 0 }

/-- Frame timing is its clock with the pending list and the skip counter. -/
theorem timing_of_clock {t u : Timing} (clock : t.clock = u.clock) :
    t = { u with frames := t.frames, skip := t.skip } := by
  cases t
  cases u
  simp only [Timing.clock, Timing.mk.injEq] at clock ⊢
  simp [clock]

/-- The sync that begins an acquisition: frame 0 with the list emptied, one sync skipped and the engine stopped. -/
theorem acquisition {s : State} (core : EngineCore s) :
    (afterSync (beginAcquisition s)).timing = { acquiringAt s.now s.timing with skip := 1, frames := [] } ∧
    (afterSync (beginAcquisition s)).engine.state.runs = false ∧
    Latches (Event.mask .streamAcquired ||| maskIf (anyStaged s.engine) .modeApplied)
      (Event.mask .streamAcquired ||| maskIf (anyStaged s.engine) .modeApplied) s (afterSync (beginAcquisition s)) := by
  let b := s.setTiming (acquiringAt s.now s.timing)
  have core : EngineCore b := engineCore_of_same core rfl id
  obtain ⟨still, unstaged, frames, applied⟩ := stopIfNeeded_of_not core (by simp [mayRun, b, acquiringAt])
  have clock : (stopIfNeeded b).timing.clock = b.timing.clock := clock_stopIfNeeded b
  let c := raise .streamAcquired ((stopIfNeeded b).setTiming { (stopIfNeeded b).timing with skip := 0 })
  have begun : beginAcquisition s = c := rfl
  have stillC : c.engine.state.runs = false := by simpa [c] using still
  have unstagedC : anyStaged c.engine = false := by simpa [c] using unstaged
  have timing : (skipSync c).timing = { acquiringAt s.now s.timing with skip := 1, frames := [] } := by
    have same : (skipSync c).timing = { (stopIfNeeded b).timing with skip := addSkips 0 1 } := by simp [skipSync, c]
    rw [same, timing_of_clock clock, frames]
    rfl
  rw [begun, afterSync_of_still stillC unstagedC]
  obtain ⟨same, runs, events⟩ := reevaluate_of_not (s := skipSync c) stillC (by rw [timing]; simp [acquiringAt])
  refine ⟨same.trans timing, runs, ?_⟩
  have raised := applied.trans ((latches_raise .streamAcquired
    ((stopIfNeeded b).setTiming { (stopIfNeeded b).timing with skip := 0 })).same_before rfl)
  rw [BitVec.or_comm] at raised
  exact (raised.same_before (s := s) rfl).same_after events

/-! ### A sync of a locked stream (R21, R30) -/

theorem clock_followSelection (s : State) : (followSelection s).timing.clock = s.timing.clock := by
  unfold followSelection
  split
  case h_1 | h_2 => split <;> rfl
  all_goals rfl

theorem clock_countStaged (s : State) : (countStaged s).timing.clock = s.timing.clock := by
  have raised (c : Bool) (e : Event) (u : State) : (raiseIf c e u).timing = u.timing := by simp
  simp only [countStaged]
  split
  · rw [clock_followSelection, raised]
    rfl
  · rw [raised]
    rfl

theorem clock_decideSync (s : State) : (decideSync s).timing.clock = s.timing.clock := by
  unfold decideSync
  split
  · split <;> rfl
  · rfl

theorem clock_afterSync (s : State) : (afterSync s).timing.clock = s.timing.clock := by
  rw [afterSync, clock_reevaluate, clock_decideSync, clock_countStaged]

/-- What a clock says of the fields that are not the list or the counter. -/
theorem fields_of_clock {t u : Timing} (clock : t.clock = u.clock) : t.stream = u.stream ∧ t.lastSync = u.lastSync ∧
    t.period = u.period ∧ t.frameNumber = u.frameNumber ∧ t.format = u.format ∧ t.timebase = u.timebase := by
  rw [timing_of_clock clock]
  exact ⟨rfl, rfl, rfl, rfl, rfl, rfl⟩

/-- An engine that does not run enters RUNNING or PATTERN when it is ready, and stays as it is otherwise (R127, R128).
-/
theorem reevaluate_of_still {s : State} (still : s.engine.state.runs = false) (locked : s.timing.stream = .locked)
    (empty : s.timing.frames = []) (follows : s.engine.state = .unconfigured ↔ configured s = false) :
    let ready := s.engine.state = .standby ∧ (s.link .body).state = .up ∧ s.store.op = none
    (reevaluate s).timing = s.timing ∧
    (ready → patternSelected s.engine = false → (reevaluate s).engine = { s.engine with
      state := .running, previous := ⟨none, none, none, true⟩, reportDue := none }) ∧
    (ready → patternSelected s.engine = true → (reevaluate s).engine = { s.engine with
      state := .pattern, patternCounter := 0, reportDue := none }) ∧
    (¬ready → (reevaluate s).engine = s.engine) := by
  intro ready
  have stays : stopIfNeeded s = s := by simp [stopIfNeeded, still]
  have same : followConfiguration s = s := by
    unfold followConfiguration
    cases state : s.engine.state with
    | unconfigured => simp [follows.1 state]
    | standby =>
      have set : configured s = true := by
        rw [← Bool.not_eq_false]
        exact fun unset => by simp [follows.2 unset] at state
      simp [set]
    | running | pattern => rfl
  have started : reevaluate s = startIfReady s := by rw [reevaluate, stays, same]
  rw [started]
  by_cases begins : ready
  · obtain ⟨standby, up, idle⟩ := begins
    have set : configured s = true := by
      rw [← Bool.not_eq_false]
      exact fun unset => by simp [follows.2 unset] at standby
    have enters : startIfReady s = enterSelected s := by
      simp [startIfReady, standby, (mayRun_iff s).2 ⟨set, locked, up⟩, idle]
    rw [enters, enterSelected]
    refine ⟨?_, fun _ running => ?_, fun _ pattern => ?_, fun not => absurd ⟨standby, up, idle⟩ not⟩
    · split
      · simp only [enterPattern, timing_setEngine, timing_setTiming, empty, List.map_nil]
        rw [← empty]
      · rfl
    · simp [running, enterRunning, Previous.none]
    · simp [pattern, enterPattern]
  · have waits : startIfReady s = s := by
      unfold startIfReady
      refine if_neg fun starts => begins ?_
      simp only [Bool.and_eq_true, decide_eq_true_eq, Option.isNone_iff_eq_none] at starts
      obtain ⟨⟨standby, may⟩, idle⟩ := starts
      obtain ⟨-, -, up⟩ := (mayRun_iff s).1 may
      exact ⟨standby, up, idle⟩
    rw [waits]
    exact ⟨rfl, fun begun => absurd begun begins, fun begun => absurd begun begins, fun _ => rfl⟩

/-- Settles O27: the verdict on the edge, the acquisition, and the locked stream with the engine that follows it. -/
theorem syncEdgeIsMeasured : Obligations.SyncEdgeIsMeasured := by
  intro t s free law n
  have meaning := exec_syncEdge free t
  refine ⟨fun i stream last glitch => ?glitch, fun acquires => ?acquires, fun i stream last long short => ?locks⟩
  case glitch =>
    have verdict : judgeEdge (advanceTo t s) = .rejected := by
      rw [judgeEdge_of_last (s := advanceTo t s) stream last]
      exact if_pos glitch
    rw [meaning, applyEdge, verdict]
    rfl
  case acquires =>
    have verdict : judgeEdge (advanceTo t s) = .acquires := by
      rcases acquires with stream | ⟨i, last, late⟩
      · exact judgeEdge_of_noStream stream
      · by_cases stream : s.timing.stream = .noStream
        · exact judgeEdge_of_noStream stream
        · have late : 1000000 < instantDiff (advanceTo t s).now i := late
          rw [judgeEdge_of_last (s := advanceTo t s) stream last, if_neg (by omega), if_neg (by omega)]
    rw [applyEdge_of_acquires verdict] at meaning
    obtain ⟨timing, still, raised⟩ := acquisition (s := advanceTo t s) (engineCore_of_same law.core rfl id)
    refine ⟨_, meaning, Eq.trans (by simp) timing, by simpa using still, raised.settle, ?_⟩
    simp [beginAcquisition]
  case locks =>
    have verdict : judgeEdge (advanceTo t s) = .locks (instantDiff n i).toNat := by
      have long : ¬ instantDiff (advanceTo t s).now i < 2000 := not_lt.2 long
      rw [judgeEdge_of_last (s := advanceTo t s) stream last, if_neg long]
      exact if_pos short
    rw [applyEdge_of_locks verdict] at meaning
    generalize length : (instantDiff n i).toNat = interval at meaning
    have measured : (interval : Int) = instantDiff n i := by omega
    let b := lockStream interval (advanceTo t s)
    have meaning : exec (.syncEdge t) s = answer (afterSync b) := meaning
    obtain ⟨stream, lastSync, period, number, format, timebase⟩ := fields_of_clock (clock_afterSync b)
    refine ⟨_, meaning, ?_, ?_, ?_, ?_, ?_, ?_, fun still => ?_, by simp [b, lockStream], by simp [b, lockStream],
      by simp [b, lockStream], by simp [b, lockStream], by simp [b, lockStream], by simp [b, lockStream]⟩
    · exact (now_settle _).trans timebase
    · simp only [settle_frame]
      exact stream
    · simp only [settle_frame]
      exact lastSync
    · simp only [settle_frame, period]
      exact measured
    · simp only [settle_frame]
      exact number
    · simp only [settle_frame]
      exact format
    · obtain ⟨follows, -, -, -, quiet, -⟩ := law
      obtain ⟨unstaged, empty⟩ := quiet still
      rw [afterSync_of_still (s := b) still unstaged]
      simp only [settle_frame]
      obtain ⟨timing, running, pattern, waits⟩ := reevaluate_of_still (s := skipSync b) still rfl empty follows
      exact ⟨(congrArg Timing.frames timing).trans empty, congrArg Timing.skip timing, running, pattern, waits⟩

end Sys2Proof.Machine
end

section
/-! PROOF. The entry of an accepted sync (R27 to R31), and the end of the stream (R22, R23). -/

namespace Sys2Proof.Machine

/-! ### The entry of a sync -/

theorem isSome_onSync {α : Type} {m : ModeSet α} (set : m.inForce.isSome = true) : m.onSync.inForce.isSome = true := by
  unfold ModeSet.onSync
  split
  · split
    · rfl
    · exact set
  · exact set

/-- The counts toward the staged sets leave the list's length, its due instants and the running engine. -/
theorem followSelection_of_running {s : State} (running : s.engine.state.runs = true) :
    (followSelection s).engine.state.runs = true ∧ (followSelection s).engine.modeSets = s.engine.modeSets ∧
    (followSelection s).timing.skip = s.timing.skip ∧
    (followSelection s).timing.frames.map Entry.due = s.timing.frames.map Entry.due := by
  have mapped : (s.timing.frames.map Entry.endStay).map Entry.due = s.timing.frames.map Entry.due :=
    map_endStay Entry.due (fun _ _ => rfl) _
  unfold followSelection
  split
  case h_1 state =>
    split
    · exact ⟨rfl, rfl, rfl, mapped⟩
    · exact ⟨running, rfl, rfl, rfl⟩
  case h_2 state =>
    split
    · exact ⟨running, rfl, rfl, rfl⟩
    · exact ⟨rfl, rfl, rfl, rfl⟩
  all_goals exact ⟨running, rfl, rfl, rfl⟩

theorem countStaged_of_running {s : State} (running : s.engine.state.runs = true) :
    (countStaged s).engine.state.runs = true ∧ (countStaged s).engine.modeSets =
      (s.engine.ms0.onSync, s.engine.ms1.onSync, s.engine.ms2.onSync, s.engine.ms3.onSync) ∧
    (countStaged s).timing.skip = s.timing.skip ∧
    (countStaged s).timing.frames.map Entry.due = s.timing.frames.map Entry.due := by
  let counted := raiseIf (anyDueAtSync s.engine) .modeApplied (s.setEngine { s.engine with
    ms0 := s.engine.ms0.onSync, ms1 := s.engine.ms1.onSync, ms2 := s.engine.ms2.onSync, ms3 := s.engine.ms3.onSync })
  have engine : counted.engine = { s.engine with
      ms0 := s.engine.ms0.onSync, ms1 := s.engine.ms1.onSync, ms2 := s.engine.ms2.onSync,
      ms3 := s.engine.ms3.onSync } := by simp [counted]
  have timing : counted.timing = s.timing := by simp [counted]
  have outcome : countStaged s = if s.engine.ms3.dueAtSync then followSelection counted else counted := rfl
  rw [outcome]
  split
  · obtain ⟨runs, sets, skip, frames⟩ := followSelection_of_running (s := counted) (by rw [engine]; exact running)
    rw [engine] at sets
    rw [timing] at skip frames
    exact ⟨runs, sets, skip, frames⟩
  · rw [engine, timing]
    exact ⟨running, rfl, rfl, rfl⟩

theorem last_due {xs ys : List Entry} (dues : xs.map Entry.due = ys.map Entry.due) (f : FrameFormat) (n : Instant) :
    dueOf f n xs = match ys.getLast? with
      | none => addInterval n f.dueOffset
      | some x => laterOf (addInterval n f.dueOffset) x.due := by
  have last := congrArg List.getLast? dues
  rw [List.getLast?_map, List.getLast?_map] at last
  unfold dueOf
  cases left : xs.getLast? with
  | none =>
    have right : ys.getLast? = none := by simpa [left, eq_comm] using last
    rw [right]
  | some x =>
    obtain ⟨y, right, same⟩ : ∃ y, ys.getLast? = some y ∧ y.due = x.due := by simpa [left, eq_comm] using last
    rw [right]
    show laterOf _ x.due = laterOf _ y.due
    rw [same]

/-- A sync that an engine in RUNNING or PATTERN takes, or counts as skipped when the list is full (R30, R31). -/
theorem afterSync_of_running {s : State} {m0 : MS0} {m3 : MS3} (running : s.engine.state.runs = true)
    (set : configured s = true) (locked : s.timing.stream = .locked) (up : (s.link .body).state = .up)
    (ms0 : s.engine.ms0.onSync.inForce = some m0) (ms3 : s.engine.ms3.onSync.inForce = some m3) :
    ∃ frames, frames.map Entry.due = s.timing.frames.map Entry.due ∧
      (afterSync s).timing = if frames.length < 8
        then { s.timing with
          frames := frames ++ [newEntry m0 m3 { s.timing with frames := frames } s.now], skip := 0 }
        else { s.timing with frames := frames, skip := addSkips s.timing.skip 1 } := by
  obtain ⟨runs, sets, skip, dues⟩ := countStaged_of_running running
  have clock := clock_countStaged s
  have timing : (countStaged s).timing = { s.timing with frames := (countStaged s).timing.frames } := by
    have same := timing_of_clock clock
    rwa [skip] at same
  have now : (countStaged s).now = s.now := now_of_clock clock
  simp only [Engine.modeSets, Prod.mk.injEq] at sets
  obtain ⟨sets0, sets1, sets2, sets3⟩ := sets
  generalize counted : countStaged s = c at *
  have setC : configured c = true := by
    have store : c.store.sector0Valid = s.store.sector0Valid := by rw [← counted]; simp
    simp only [configured, Bool.and_eq_true] at set ⊢
    obtain ⟨⟨⟨⟨set0, set1⟩, set2⟩, set3⟩, valid⟩ := set
    rw [sets0, sets1, sets2, sets3, store]
    exact ⟨⟨⟨⟨isSome_onSync set0, isSome_onSync set1⟩, isSome_onSync set2⟩, isSome_onSync set3⟩, valid⟩
  have lockedC : c.timing.stream = .locked := by rw [timing]; exact locked
  have links : c.links = s.links := by rw [← counted]; simp
  have upC : (c.link .body).state = .up := by rw [link_of_links links]; exact up
  have decided : (decideSync c).timing = (if c.timing.frames.length < 8
      then { c.timing with frames := c.timing.frames ++ [newEntry m0 m3 c.timing c.now], skip := 0 }
      else { c.timing with skip := addSkips c.timing.skip 1 }) ∧ reevaluate (decideSync c) = decideSync c := by
    unfold decideSync
    rw [sets0, sets3, ms0, ms3]
    dsimp only
    by_cases room : c.timing.frames.length < 8
    · rw [if_pos ⟨lockedC, runs, room⟩, if_pos room]
      refine ⟨rfl, reevaluate_of_running runs ((mayRun_iff _).2 ⟨setC, lockedC, upC⟩)⟩
    · rw [if_neg fun ⟨_, _, free⟩ => room free, if_neg room]
      exact ⟨rfl, reevaluate_of_running (s := skipSync c) runs ((mayRun_iff _).2 ⟨setC, lockedC, upC⟩)⟩
  obtain ⟨decided, stays⟩ := decided
  refine ⟨c.timing.frames, dues, ?_⟩
  rw [afterSync, counted, stays, decided, skip, now]
  split
  · rw [timing]
  · rw [timing]

/-- Settles O28: the entry that `decideSync` appends, or the sync counted as skipped. -/
theorem syncMakesTheEntry : Obligations.SyncMakesTheEntry := by
  intro t i s m0 m3 free law running last n long short ms0 ms3
  have meaning := exec_syncEdge free t
  obtain ⟨follows, conditions, -, -, -, -⟩ := law
  obtain ⟨locked, up⟩ := conditions running
  have verdict : judgeEdge (advanceTo t s) = .locks (instantDiff n i).toNat := by
    have long : ¬ instantDiff (advanceTo t s).now i < 2000 := not_lt.2 long
    rw [judgeEdge_of_last (s := advanceTo t s) (by simp [locked]) last, if_neg long]
    exact if_pos short
  rw [applyEdge_of_locks verdict] at meaning
  generalize (instantDiff n i).toNat = interval at meaning
  have set : configured s = true := by
    rw [← Bool.not_eq_false]
    intro unset
    simp [follows.2 unset, EngineState.runs] at running
  obtain ⟨frames, dues, timing⟩ := afterSync_of_running (s := lockStream interval (advanceTo t s)) running set rfl up
    ms0 ms3
  have length : frames.length = s.timing.frames.length := by
    have same := congrArg List.length dues
    rw [List.length_map, List.length_map] at same
    exact same
  refine ⟨fun room => ?_, fun full => ?_⟩
  · rw [if_pos (by omega)] at timing
    refine ⟨_, newEntry m0 m3 { (lockStream interval (advanceTo t s)).timing with frames := frames } n, meaning, ?_, ?_,
      ?_, rfl, rfl, rfl, rfl, rfl, rfl, last_due dues _ n, rfl, rfl⟩
    · simp only [settle_frame, timing]
      rw [List.length_append, length]
      rfl
    · simp only [settle_frame, timing]
      exact List.getLast?_concat
    · simp only [settle_frame, timing]
  · rw [if_neg (by omega)] at timing
    refine ⟨_, meaning, ?_, ?_⟩
    · simp only [settle_frame, timing]
      omega
    · simp only [settle_frame, timing]
      rfl

/-! ### The end of the stream (R22, R23) -/

/-- Settles O29: the engine stops at once, and the re-evaluation that follows keeps it still. -/
theorem streamTimeoutEndsTheStream : Obligations.StreamTimeoutEndsTheStream := by
  intro i s law stream last armed
  have timer : streamTimeout s.timing = some armed := by
    simp only [streamTimeout, last, armed]
    cases current : s.timing.stream with
    | noStream => exact absurd current stream
    | acquiring => rfl
    | locked => rfl
  have meaning : exec .streamTimeout s = answer (loseStream (advanceTo armed s)) := by
    show execStreamTimeout s = _
    simp only [execStreamTimeout, timer]
  generalize armed = n at meaning ⊢
  let c := raise .streamLost ((advanceTo n s).setTiming
    { (advanceTo n s).timing with stream := .noStream, period := 0 })
  have core : EngineCore c := engineCore_of_same law.core (by simp [c]) (by simp [c])
  have unlocked : c.timing.stream = .noStream := by simp [c]
  obtain ⟨still, -, frames, applied⟩ := stopIfNeeded_of_not core (by simp [mayRun, unlocked])
  obtain ⟨streamStop, lastSync, period, number, -, timebase⟩ := fields_of_clock (clock_stopIfNeeded c)
  have twice : loseStream (advanceTo n s) = reevaluate (stopIfNeeded c) := by
    have stopped : stopIfNeeded (stopIfNeeded c) = stopIfNeeded c := by
      rw [stopIfNeeded, still, Bool.false_and, if_neg Bool.false_ne_true]
    show reevaluate c = _
    rw [reevaluate, reevaluate, stopped]
  obtain ⟨timing, runs, events⟩ := reevaluate_of_not still (by rw [streamStop, unlocked]; simp)
  rw [twice] at meaning
  have fields : (settle (reevaluate (stopIfNeeded c))).timing = (stopIfNeeded c).timing := by simp [timing]
  have raised := (latches_raise .streamLost ((advanceTo n s).setTiming
    { (advanceTo n s).timing with stream := .noStream, period := 0 })).trans applied
  have staged : anyStaged c.engine = anyStaged s.engine := by simp [c]
  rw [staged] at raised
  refine ⟨_, meaning, ?_, ?_, ?_, ?_, ?_, ?_, ?_, ((raised.same_before (s := s) rfl).same_after events).settle, ?_⟩
  · rw [State.now, fields, timebase]
    simp [c]
  · rw [fields, streamStop, unlocked]
  · rw [fields, period]
    simp [c]
  · rw [fields, lastSync]
    simpa [c] using last
  · rw [fields, number]
    simp [c]
  · rw [fields, frames]
  · simpa using runs
  · simp [c]

end Sys2Proof.Machine
end

section
/-! PROOF. The record of an entry at its due instant (R33, R126, R140, R141). -/

namespace Sys2Proof.Machine

/-- The body link is handed the record of an entry, and the accessory link, while UP, its report (R33, R141). -/
def recordSent (e : Entry) (d : Delivered) (s : State) : State :=
  if (s.link .accessory).state = .up
    then handRecord .accessory (frameReport s e d) (handRecord .body (recordFrame e d) s)
    else handRecord .body (recordFrame e d) s

theorem link_handRecord_other (l : Link) (f : TxFrame) (s : State) :
    (handRecord l f s).link (otherLink l) = s.link (otherLink l) := by
  simp [handRecord, link_startTransmit_other]

/-- A report reads authority and the engine's state alone of the machine. -/
theorem frameReport_congr {s u : State} (auth : u.auth = s.auth) (engine : u.engine = s.engine) (e : Entry)
    (d : Delivered) : frameReport u e d = frameReport s e d := by
  simp only [frameReport, reportPayload, auth, engine]

theorem sendFrameReport_handRecord (e : Entry) (d : Delivered) (s : State) :
    sendFrameReport e d (handRecord .body (recordFrame e d) s) = recordSent e d s := by
  have up : (handRecord .body (recordFrame e d) s).link .accessory = s.link .accessory :=
    link_handRecord_other .body (recordFrame e d) s
  rw [sendFrameReport, recordSent, accessoryUp, up, frameReport_congr (s := s) (by simp) (by simp)]
  simp

@[simp] theorem recordSent_frame (e : Entry) (d : Delivered) (s : State) :
    (recordSent e d s).seq = s.seq ∧ (recordSent e d s).front = s.front ∧ (recordSent e d s).timing = s.timing ∧
    (recordSent e d s).store = s.store ∧ (recordSent e d s).cache = s.cache ∧ (recordSent e d s).engine = s.engine ∧
    (recordSent e d s).auth = s.auth ∧ (recordSent e d s).events = s.events := by
  unfold recordSent
  split <;> simp

theorem latches_raiseRecordEvents (f : RecordFlags) (s : State) :
    let raised := maskIf (f.scaleHeld || f.shadingHeld) .recordHeld |||
      maskIf (f.scaleClamped || f.scaleSlewed) .scaleLimited
    Latches raised raised s (raiseRecordEvents f s) :=
  (latches_raiseIf _ .recordHeld s).trans (latches_raiseIf _ .scaleLimited _)

theorem exec_dueInstant {e : Entry} {d : Delivered} {rest : List Entry} {s : State}
    (frames : s.timing.frames = e :: rest)
    (ready : e.progress = .ready d) : exec .dueInstant s = answer (handOver e d rest (advanceTo e.due s)) := by
  obtain ⟨number, skipped, sync, format, target, due, compute, cutoff, progress⟩ := e
  cases ready
  show execDueInstant s = _
  simp only [execDueInstant, frames]

/-! ### No event of a record without a record (R126) -/

/-- The events of a record that leaves. -/
def recordWord : EventWord := Event.mask .recordHeld ||| Event.mask .scaleLimited

theorem levelWord_recordWord (s : State) : levelWord s &&& recordWord = 0 := by
  have apart : ∀ a b c d : Bool, ((if a then Event.mask .axisLost else 0) |||
      (if b then Event.mask .tableMissing else 0) ||| (if c then Event.mask .authorityConflict else 0) |||
      (if d then Event.mask .selfTestFail else 0)) &&& recordWord = 0 := by decide
  exact apart ..

theorem latches_stopIfNeeded (s : State) :
    ∃ c, Latches (maskIf c .modeApplied) (maskIf c .modeApplied) s (stopIfNeeded s) := by
  unfold stopIfNeeded
  split
  · exact ⟨anyStaged s.engine, (latches_raiseIf (anyStaged s.engine) .modeApplied _).same_before rfl⟩
  · exact ⟨false, latches_of_same rfl⟩

theorem latches_reevaluate (s : State) :
    ∃ c, Latches (maskIf c .modeApplied) (maskIf c .modeApplied) s (reevaluate s) := by
  obtain ⟨c, applied⟩ := latches_stopIfNeeded s
  exact ⟨c, applied.same_after (by simp [reevaluate])⟩

theorem latches_loseStream (s : State) : ∃ c, Latches (Event.mask .streamLost ||| maskIf c .modeApplied)
    (Event.mask .streamLost ||| maskIf c .modeApplied) s (loseStream s) := by
  let lost := s.setTiming { s.timing with stream := .noStream, period := 0 }
  obtain ⟨c, applied⟩ := latches_reevaluate (raise .streamLost lost)
  exact ⟨c, ((latches_raise .streamLost lost).trans applied).same_before rfl⟩

/-- Bits raised that are none of a record's leave the record's bits of each word. -/
theorem recordBits_of_latches {raised : EventWord} {s u : State} (latches : Latches raised raised s u)
    (apart : raised &&& recordWord = 0) (l : Link) :
    pendingWord (settle u) l &&& recordWord = pendingWord s l &&& recordWord := by
  cases words : s.events with
  | none =>
    have none : u.events = none := by simpa [Latches, words] using latches
    simp [pendingWord, events_settle, none, words]
  | some w =>
    have words' : u.events = some (latched raised raised w) := by simpa [Latches, words] using latches
    have word : ((latched raised raised w).get l).pending = pendingWord s l ||| raised := by
      cases l <;> simp [latched, pendingWord, words, PerLink.get]
    rw [pendingWord_settle words', word, BitVec.and_or_distrib_right, BitVec.and_or_distrib_right, apart,
      levelWord_recordWord]
    simp

/-- Settles O31: the oldest entry is READY and is handed over; a stream's end raises none of a record's events. -/
theorem recordLeavesAtDueInstant : Obligations.RecordLeavesAtDueInstant := by
  refine ⟨fun e d rest s frames ready => ?leaves, fun s t l lost => ?discarded⟩
  case leaves =>
    intro b raised
    have meaning := exec_dueInstant frames ready
    have sent : handOver e d rest (advanceTo e.due s) = raiseRecordEvents d.flags (recordSent e d b) := by
      rw [handOver, sendFrameReport_handRecord]
      rfl
    rw [sent] at meaning
    have events : Latches raised raised s (raiseRecordEvents d.flags (recordSent e d b)) :=
      (latches_raiseRecordEvents d.flags (recordSent e d b)).same_before (by simp [b])
    refine ⟨_, meaning, by simp, events.settle, ?_, by simp [b], by simp [b], by simp [b], by simp [b], by simp [b],
      by simp [b]⟩
    have report : frameReport b e d = frameReport s e d := frameReport_congr rfl rfl e d
    simp only [settle_frame, raiseRecordEvents_frame, recordSent, report]
    rfl
  case discarded =>
    change execStreamTimeout s = _ at lost
    unfold execStreamTimeout at lost
    split at lost
    · cases lost
      obtain ⟨c, latches⟩ := latches_loseStream (advanceTo _ s)
      refine recordBits_of_latches (latches.same_before (s := s) rfl) ?_ l
      cases c <;> decide
    · cases lost
      rfl

end Sys2Proof.Machine
end

section
/-! PROOF. What a computation's start leaves behind: its prediction's notes (R12, R44, R46) and its lookups (R86, R89,
R92). -/

namespace Sys2Proof.Machine

/-! ### The notes of a prediction -/

/-- Whether a predicted count lies outside its axis's map; an ABSENT axis has none. -/
def predictedOutside (a : Axis) (cp : MapCopy) (p : Option AxisPrediction) : Bool :=
  (p.map fun x => outsideOf (cp.maps.get a) x.count.toNat).getD false

theorem heldCount_notePrediction_same (a : Axis) (cp : MapCopy) (p : Option AxisPrediction) (s : State) :
    (notePrediction a cp p s).engine.heldCounts.get a =
      (p.map AxisPrediction.count).orElse fun _ => s.engine.heldCounts.get a := by
  cases p <;> simp [notePrediction, noteConversion]

theorem heldCount_notePrediction_other {a b : Axis} (other : b ≠ a) (cp : MapCopy) (p : Option AxisPrediction)
    (s : State) : (notePrediction a cp p s).engine.heldCounts.get b = s.engine.heldCounts.get b := by
  cases p <;> simp [notePrediction, noteConversion, axis_get_set_of_ne _ _ other]

theorem axis_notePrediction_same (a : Axis) (cp : MapCopy) (p : Option AxisPrediction) (s : State) :
    (notePrediction a cp p s).front.axes.get a = if p.isSome
      then { s.front.axes.get a with outsideMap := predictedOutside a cp p } else s.front.axes.get a := by
  cases p <;> simp [notePrediction, axes_noteConversion, predictedOutside]

theorem axis_notePrediction_other {a b : Axis} (other : b ≠ a) (cp : MapCopy) (p : Option AxisPrediction) (s : State) :
    (notePrediction a cp p s).front.axes.get b = s.front.axes.get b := by
  cases p <;> simp [notePrediction, axes_noteConversion, axis_get_set_of_ne _ _ other]

theorem front_notePrediction (a : Axis) (cp : MapCopy) (p : Option AxisPrediction) (s : State) :
    (notePrediction a cp p s).front = { s.front with axes := (notePrediction a cp p s).front.axes } := by
  cases p <;> simp [notePrediction, noteConversion, FrontEnd.setAxis]

theorem latches_notePrediction (a : Axis) (cp : MapCopy) (p : Option AxisPrediction) (s : State) :
    Latches (maskIf (predictedOutside a cp p) .axisRange) (maskIf (predictedOutside a cp p) .axisRange) s
      (notePrediction a cp p s) := by
  cases p with
  | none => exact latches_of_same rfl
  | some x => exact (latches_raiseIf _ .axisRange _).same_before rfl

theorem previous_notePrediction (a : Axis) (cp : MapCopy) (p : Option AxisPrediction) (s : State) :
    (notePrediction a cp p s).engine.previous = s.engine.previous ∧
      (notePrediction a cp p s).engine.patternCounter = s.engine.patternCounter ∧
      (notePrediction a cp p s).engine.state = s.engine.state := by
  cases p <;> simp [notePrediction, noteConversion]

theorem previous_notePredictions (m : MS0) (t : Instant) (cp : MapCopy) (s : State) :
    (notePredictions m t cp s).engine.previous = s.engine.previous ∧
      (notePredictions m t cp s).engine.patternCounter = s.engine.patternCounter ∧
      (notePredictions m t cp s).engine.state = s.engine.state := by
  simp [notePredictions, previous_notePrediction]

theorem maskIf_or (a b : Bool) (e : Event) : maskIf a e ||| maskIf b e = maskIf (a || b) e := by
  cases a <;> cases b <;> simp [maskIf]

/-- What the prediction of a frame leaves, axis by axis. -/
theorem notePredictions_spec (m : MS0) (t : Instant) (cp : MapCopy) (s : State) :
    let p := axisPrediction m t cp s
    let u := notePredictions m t cp s
    let raised := maskIf (predictedOutside .focus cp (p .focus) || predictedOutside .zoom cp (p .zoom) ||
      predictedOutside .iris cp (p .iris)) .axisRange
    (∀ a, u.engine.heldCounts.get a = ((p a).map AxisPrediction.count).orElse fun _ => s.engine.heldCounts.get a) ∧
    (∀ a, u.front.axes.get a = if (p a).isSome
      then { s.front.axes.get a with outsideMap := predictedOutside a cp (p a) } else s.front.axes.get a) ∧
    u.front = { s.front with axes := u.front.axes } ∧ Latches raised raised s u := by
  intro p u raised
  let focus := notePrediction .focus cp (p .focus) s
  let zoom := notePrediction .zoom cp (p .zoom) focus
  let iris := notePrediction .iris cp (p .iris) zoom
  have engine : u.engine.heldCounts = iris.engine.heldCounts := rfl
  have front : u.front = iris.front := rfl
  refine ⟨fun a => ?_, fun a => ?_, ?_, ?_⟩
  · rw [engine]
    cases a
    · rw [heldCount_notePrediction_other (by decide), heldCount_notePrediction_other (by decide),
        heldCount_notePrediction_same]
    · rw [heldCount_notePrediction_other (by decide), heldCount_notePrediction_same,
        heldCount_notePrediction_other (by decide)]
    · rw [heldCount_notePrediction_same, heldCount_notePrediction_other (by decide),
        heldCount_notePrediction_other (by decide)]
  · rw [front]
    cases a
    · rw [axis_notePrediction_other (by decide), axis_notePrediction_other (by decide), axis_notePrediction_same]
    · rw [axis_notePrediction_other (by decide), axis_notePrediction_same, axis_notePrediction_other (by decide)]
    · rw [axis_notePrediction_same, axis_notePrediction_other (by decide), axis_notePrediction_other (by decide)]
  · rw [front, front_notePrediction, front_notePrediction, front_notePrediction]
  · have all := ((latches_notePrediction .focus cp (p .focus) s).trans
      (latches_notePrediction .zoom cp (p .zoom) focus)).trans (latches_notePrediction .iris cp (p .iris) zoom)
    rw [maskIf_or, maskIf_or] at all
    exact all.same_after rfl

/-- The notes of a prediction stand in every state that keeps them and settles its events. -/
theorem predictionNoted {m : MS0} {t : Instant} {cp : MapCopy} {s b u : State}
    (front : b.front = s.front) (engine : b.engine = s.engine) (straps : b.seq = s.seq) (events : b.events = s.events)
    (held : u.engine.heldCounts = (notePredictions m t cp b).engine.heldCounts)
    (kept : u.front = (notePredictions m t cp b).front) (raised : u.events = (notePredictions m t cp b).events) :
    PredictionNoted m t cp s (settle u) := by
  have fitted (a : Axis) : b.fitted a = s.fitted a := by rw [State.fitted, straps, State.fitted]
  obtain ⟨counts, axes, rest, latches⟩ := notePredictions_spec m t cp b
  have prediction (a : Axis) : axisPrediction m t cp b a = if s.fitted a then some (predictAxis m t (s.front.axes.get a)
      (s.engine.heldCounts.get a) (cp.maps.get a)) else none := by
    rw [axisPrediction, fitted, front, engine]
  have outside (a : Axis) : predictedOutside a cp (axisPrediction m t cp b a) = (s.fitted a && outsideOf (cp.maps.get a)
      (predictAxis m t (s.front.axes.get a) (s.engine.heldCounts.get a) (cp.maps.get a)).count.toNat) := by
    rw [prediction, predictedOutside]
    cases s.fitted a <;> rfl
  simp only [outside] at axes latches
  refine ⟨fun a => ?_, fun a => ?_, ?_, ((latches.same_after raised).same_before events).settle⟩
  · simp only [settle_frame, held]
    rw [counts, prediction, engine]
    cases s.fitted a <;> rfl
  · simp only [settle_frame, kept]
    rw [axes, prediction, front]
    cases s.fitted a <;> rfl
  · simp only [settle_frame, kept]
    rw [rest, front]

end Sys2Proof.Machine
end

section
/-! PROOF. The lookups of a computation's start (R86, R89, R92, R106 to R109). -/

namespace Sys2Proof.Machine

/-! ### What a lookup leaves of the cells and of the demand part -/

/-- A cache that holds the cells another holds and still has its demand entries. -/
structure Carries (c d : Cache) : Prop where
  cells : ∀ k, cachedCell k d = cachedCell k c
  demand : ∀ q ∈ c.demand, ∃ r ∈ d.demand, r.key = q.key

theorem Carries.refl (c : Cache) : Carries c c := ⟨fun _ => rfl, fun q mem => ⟨q, mem, rfl⟩⟩

theorem Carries.trans {c d e : Cache} (first : Carries c d) (second : Carries d e) : Carries c e := by
  refine ⟨fun k => (second.cells k).trans (first.cells k), fun q mem => ?_⟩
  obtain ⟨r, mem, key⟩ := first.demand q mem
  obtain ⟨r', mem', key'⟩ := second.demand r mem
  exact ⟨r', mem', key'.trans key⟩

/-- A set's cells follow the contents of its ways. -/
theorem cellOf_congr {xs ys : List Way} (same : xs.map Way.content = ys.map Way.content) (k : Key) :
    cellOf k xs = cellOf k ys := by
  let holds : Option WayContent → Bool := fun c => Way.holds k ⟨c, 0⟩
  have contents (ways : List Way) : cellOf k ways =
      ((ways.map Way.content).find? holds).bind fun c => c.map WayContent.cell := by
    rw [List.find?_map, cellOf]
    have each : holds ∘ Way.content = Way.holds k := rfl
    rw [each]
    cases ways.find? (Way.holds k) <;> rfl
  rw [contents, contents, same]

theorem contents_touchWay (i : Nat) (ways : List Way) : (touchWay i ways).map Way.content = ways.map Way.content := by
  cases found : ways[i]? with
  | none => simp [touchWay, found]
  | some w =>
    obtain ⟨pre, post, rfl, rfl⟩ := exists_split_of_getElem? found
    simp [touchWay_split, Function.comp_def]

theorem setOf_changeSet_eq (j k : Key) (f : List Way → List Way) (sets : List (List Way)) :
    setOf j (changeSet k f sets) = f (setOf k sets) ∧ setOf j sets = setOf k sets ∨
      setOf j (changeSet k f sets) = setOf j sets := by
  unfold changeSet setOf
  by_cases same : setIndex k = setIndex j
  · by_cases inside : setIndex k < sets.length
    · left
      rw [← same]
      simp [List.getD_eq_getElem?_getD, inside]
    · right
      rw [List.set_eq_of_length_le (by omega)]
  · right
    simp [List.getD_eq_getElem?_getD, List.getElem?_set_ne same]

theorem carries_touchKey (k : Key) (c : Cache) : Carries c (touchKey k c) := by
  refine ⟨fun j => ?_, fun q mem => ⟨q, by rwa [(demand_touchKey k c).1], rfl⟩⟩
  unfold touchKey
  split
  case h_1 i found =>
    rw [cachedCell_eq, cachedCell_eq]
    rcases setOf_changeSet_eq j k (touchWay i) c.sets with ⟨changed, same⟩ | kept
    · rw [changed, same]
      exact cellOf_congr (contents_touchWay i _) j
    · rw [kept]
  case h_2 => rfl

/-- A demand request that is queued leaves its key in the demand part. -/
theorem carries_demandRequest (k : Key) (g : Nat) (c : Cache) : Carries c (demandRequest k g c).1 ∧
    ((demandRequest k g c).2 = true → ∃ q ∈ (demandRequest k g c).1.demand, q.key = k) := by
  have added (e : FillEntry) (key : e.key = k) (p : List FillEntry) :
      Carries c { c with demand := c.demand ++ [e], prefetch := p } ∧
        (true = true → ∃ q ∈ c.demand ++ [e], q.key = k) :=
    ⟨⟨fun _ => rfl, fun q mem => ⟨q, List.mem_append_left _ mem, rfl⟩⟩, fun _ => ⟨e, by simp, key⟩⟩
  unfold demandRequest
  split
  case isTrue queued => exact ⟨.refl c, fun _ => by simpa using queued⟩
  case isFalse =>
    split
    case h_1 e found => exact added e (by simpa using List.find?_some found) _
    case h_2 =>
      split
      · exact added ⟨k, g, false⟩ rfl c.prefetch
      · split
        · exact added ⟨k, g, false⟩ rfl _
        · exact ⟨.refl c, nofun⟩

theorem carries_prefetchRequest (k : Key) (g : Nat) (c : Cache) : Carries c (prefetchRequest k g c) := by
  have same (p : List FillEntry) : Carries c { c with prefetch := p } := ⟨fun _ => rfl, fun q mem => ⟨q, mem, rfl⟩⟩
  unfold prefetchRequest
  split
  · exact .refl c
  · split
    · exact same _
    · split
      · exact same _
      · exact .refl c

theorem carries_prefetchKind (kind : TableKind) (d : Direction) (p : Position) (t : Option ActiveTable) (c : Cache) :
    Carries c (prefetchKind kind d p t c) := by
  unfold prefetchKind
  split
  case h_1 => exact .refl c
  case h_2 t =>
    generalize prefetchKeys kind d p.power p.focal p.iris t = keys
    induction keys generalizing c with
    | nil => exact .refl c
    | cons k ks ih => exact (carries_prefetchRequest k _ c).trans (ih _)

theorem carries_prefetchAll (ms0 : MS0) (level : Nat) (d : Direction) (p : Position) (x : Store) (c : Cache) :
    Carries c (prefetchAll ms0 level d p x c) := by
  have breathing : Carries c (if 1 ≤ level then prefetchKind .breathing d p x.breathing c else c) := by
    split
    · exact carries_prefetchKind ..
    · exact .refl c
  unfold prefetchAll
  split
  · exact .refl c
  · dsimp only
    split
    · exact breathing.trans (carries_prefetchKind ..)
    · exact breathing

/-! ### The lookups of a quantity -/

/-- What the lookups have done since a cache: it is carried, the needs are the cells it holds, and unless a key was
refused each missing one is in the demand part. -/
structure LookedUp (c : Cache) (keys : List Key) (r : Lookups) : Prop where
  carries : Carries c r.cache
  needs : r.needs = keys.map fun k => ⟨k, cachedCell k c⟩
  queued : r.refused = false → ∀ k, ⟨k, none⟩ ∈ r.needs → ∃ q ∈ r.cache.demand, q.key = k

theorem LookedUp.lookup {c : Cache} {keys : List Key} {r : Lookups} (looked : LookedUp c keys r) (g : Nat) (k : Key) :
    LookedUp c (keys ++ [k]) (lookup g r k) := by
  obtain ⟨carries, needs, queued⟩ := looked
  have same : cachedCell k r.cache = cachedCell k c := carries.cells k
  unfold Machine.lookup
  split
  case h_1 cell hit =>
    have touched := carries_touchKey k r.cache
    refine ⟨carries.trans touched, ?_, fun none j missing => ?_⟩
    · rw [List.map_append, ← needs, ← hit, same]
      rfl
    · have missing : (⟨j, Option.none⟩ : Need) ∈ r.needs := by simpa using missing
      obtain ⟨q, mem, key⟩ := queued none j missing
      obtain ⟨q', mem', key'⟩ := touched.demand q mem
      exact ⟨q', mem', key'.trans key⟩
  case h_2 miss =>
    obtain ⟨requested, joined⟩ := carries_demandRequest k g r.cache
    refine ⟨carries.trans requested, ?_, fun none j missing => ?_⟩
    · rw [List.map_append, ← needs, List.map_singleton, ← same, miss]
    · simp only [Bool.or_eq_false_iff, Bool.not_eq_eq_eq_not, Bool.not_false] at none
      obtain ⟨before, now⟩ := none
      rcases List.mem_append.1 missing with earlier | here
      · obtain ⟨q, mem, key⟩ := queued before j earlier
        obtain ⟨q', mem', key'⟩ := requested.demand q mem
        exact ⟨q', mem', key'.trans key⟩
      · have here : j = k := by simpa using here
        rw [here]
        exact joined now

theorem lookedUp_lookupAll (g : Nat) (keys : List Key) (c : Cache) : LookedUp c keys (lookupAll g keys c) := by
  have all (before : List Key) (r : Lookups) (looked : LookedUp c before r) :
      LookedUp c (before ++ keys) (keys.foldl (lookup g) r) := by
    induction keys generalizing before r with
    | nil => simpa using looked
    | cons k ks ih => simpa using ih _ _ (looked.lookup g k)
  exact all [] _ ⟨.refl c, rfl, fun _ k missing => by simp at missing⟩

/-! ### The quantities at a computation's start (R106, R108, R109) -/

/-- What becomes of the breathing quantity. -/
theorem startBreathing_spec (level power focal anchor : Nat) (t : Option ActiveTable) (c : Cache) :
    let r := startBreathing level power focal anchor t c
    Carries c r.1 ∧ (r.2 = .notFormed ↔ level = 0) ∧ (1 ≤ level → t = none → r.2 = .held) ∧
    (∀ f a z needs, r.2 = .gathering f a z needs → (∀ k, ⟨k, none⟩ ∈ needs → ∃ q ∈ r.1.demand, q.key = k) ∧
      ∃ tb, t = some tb ∧ f = bracket tb.focus power ∧ a = bracket tb.focus anchor ∧ z = bracket tb.zoom focal ∧
        needs = (neededKeys (breathingCorners f z ++ breathingCorners a z)).map fun k => ⟨k, cachedCell k c⟩) := by
  unfold startBreathing
  dsimp only
  split
  case isTrue zero => exact ⟨.refl c, iff_of_true rfl zero, fun some => absurd some (by omega), nofun⟩
  case isFalse formed =>
    split
    case h_1 => exact ⟨.refl c, iff_of_false nofun formed, fun _ _ => rfl, nofun⟩
    case h_2 tb =>
      obtain ⟨carries, needs, queued⟩ := lookedUp_lookupAll tb.generation (neededKeys (breathingCorners
        (bracket tb.focus power) (bracket tb.zoom focal) ++ breathingCorners (bracket tb.focus anchor)
        (bracket tb.zoom focal))) c
      refine ⟨carries, iff_of_false ?_ formed, nofun, fun f a z ns gathers => ?_⟩
      · split <;> nofun
      · split at gathers
        case isTrue => cases gathers
        case isFalse all =>
          cases gathers
          exact ⟨queued (by simpa using all), tb, rfl, rfl, rfl, rfl, needs⟩

/-- What becomes of the shading quantity. -/
theorem startShading_spec (level power focal iris : Nat) (t : Option ActiveTable) (c : Cache) :
    let r := startShading level power focal iris t c
    Carries c r.1 ∧ (r.2 = .notFormed ↔ level < 2) ∧ (2 ≤ level → t = none → r.2 = .held) ∧
    (∀ f z i rn needs, r.2 = .gathering f z i rn needs → (∀ k, ⟨k, none⟩ ∈ needs → ∃ q ∈ r.1.demand, q.key = k) ∧
      ∃ tb, t = some tb ∧ f = bracket tb.focus power ∧ z = bracket tb.zoom focal ∧ i = bracket tb.iris iris ∧
        rn = tb.rn ∧ needs = (neededKeys (shadingCorners f z i)).map fun k => ⟨k, cachedCell k c⟩) := by
  unfold startShading
  dsimp only
  split
  case isTrue low => exact ⟨.refl c, iff_of_true rfl low, fun some => absurd some (by omega), nofun⟩
  case isFalse formed =>
    split
    case h_1 => exact ⟨.refl c, iff_of_false nofun formed, fun _ _ => rfl, nofun⟩
    case h_2 tb =>
      obtain ⟨carries, needs, queued⟩ := lookedUp_lookupAll tb.generation (neededKeys (shadingCorners
        (bracket tb.focus power) (bracket tb.zoom focal) (bracket tb.iris iris))) c
      refine ⟨carries, iff_of_false ?_ formed, nofun, fun f z i rn ns gathers => ?_⟩
      · split <;> nofun
      · split at gathers
        case isTrue => cases gathers
        case isFalse all =>
          cases gathers
          exact ⟨queued (by simpa using all), tb, rfl, rfl, rfl, rfl, rfl, needs⟩

end Sys2Proof.Machine
end

section
/-! PROOF. COMPUTATION_START and CUTOFF (R32, R135 to R137, R143). -/

namespace Sys2Proof.Machine

/-! ### The entry that begins -/

section
variable {done rest : List Entry} {e : Entry} (ready : ∀ d ∈ done, ∃ r, d.progress = .ready r)
include ready

theorem computingEntry_append {c : Computation} (computing : e.progress = .computing c) :
    computingEntry (done ++ e :: rest) = some (e, c) := by
  induction done with
  | nil => simp [computingEntry, computing]
  | cons d done ih =>
    obtain ⟨r, here⟩ := ready d List.mem_cons_self
    simp [computingEntry, here, ih fun x mem => ready x (List.mem_cons_of_mem _ mem)]

theorem computingEntry_of_waiting (waits : ∀ r ∈ e :: rest, r.progress = .waiting) :
    computingEntry (done ++ e :: rest) = none := by
  induction done with
  | nil =>
    have none (es : List Entry) (waits : ∀ r ∈ es, r.progress = .waiting) : computingEntry es = none := by
      induction es with
      | nil => rfl
      | cons r rs ih => simp [computingEntry, waits r, ih fun x mem => waits x (List.mem_cons_of_mem _ mem)]
    exact none _ waits
  | cons d done ih =>
    obtain ⟨r, here⟩ := ready d List.mem_cons_self
    simp [computingEntry, here, ih fun x mem => ready x (List.mem_cons_of_mem _ mem)]

theorem firstWaiting_append (waiting : e.progress = .waiting) : firstWaiting (done ++ e :: rest) = some e := by
  have none : done.find? (fun e => decide (e.progress = .waiting)) = none := by
    refine List.find?_eq_none.2 fun d mem => ?_
    obtain ⟨r, here⟩ := ready d mem
    simp [here]
  rw [firstWaiting, List.find?_append, none, List.find?_cons_of_pos (by simp [waiting])]
  rfl

theorem setFirstWaiting_append (waiting : e.progress = .waiting) (p : Progress) :
    setFirstWaiting p (done ++ e :: rest) = done ++ { e with progress := p } :: rest := by
  induction done with
  | nil => simp [setFirstWaiting, waiting]
  | cons d done ih =>
    obtain ⟨r, here⟩ := ready d List.mem_cons_self
    simp [setFirstWaiting, here, ih fun x mem => ready x (List.mem_cons_of_mem _ mem)]

end

/-- A computation starts on the oldest WAITING entry, the ones before it READY, while the engine runs. -/
theorem exec_computationStart {done rest : List Entry} {e : Entry} {x : Inputs} {s : State}
    (frames : s.timing.frames = done ++ e :: rest) (ready : ∀ d ∈ done, ∃ r, d.progress = .ready r)
    (waits : ∀ r ∈ e :: rest, r.progress = .waiting) (inputs : inputsOf s = some x)
    (running : s.engine.state.runs = true) : exec .computationStart s =
      answer (if s.engine.state = .pattern then computePattern e x (advanceTo e.compute s)
        else computeFrame e x (advanceTo e.compute s)) := by
  have starts : startable s = some (e, x) := by
    simp only [startable, running, frames, computingEntry_of_waiting ready waits,
      firstWaiting_append ready (waits e List.mem_cons_self), inputs]
    rfl
  show execComputationStart s = _
  simp only [execComputationStart, starts]
  rfl

/-! ### A pattern computation (R143) -/

theorem patternStarts {done rest : List Entry} {e : Entry} {x : Inputs} {s : State}
    (frames : s.timing.frames = done ++ e :: rest) (ready : ∀ d ∈ done, ∃ r, d.progress = .ready r)
    (waits : ∀ r ∈ e :: rest, r.progress = .waiting) (inputs : inputsOf s = some x)
    (pattern : s.engine.state = .pattern) : ∃ u, exec .computationStart s = .next u ∧
      u.timing = { s.timing with
        timebase := laterOf e.compute s.now
        frames := done ++ { e with progress := .ready (deliverPattern (predictFrame x.ms0 e.target x.copy s)
          s.auth.anchor ((s.link .body).recordLevel.getD 0) s.engine.patternCounter.toNat) } :: rest } ∧
      u.engine.patternCounter = s.engine.patternCounter + 1 ∧ u.engine.previous = s.engine.previous ∧
      u.engine.lastPrediction = some (predictFrame x.ms0 e.target x.copy s).position ∧
      PredictionNoted x.ms0 e.target x.copy s u ∧ u.cache = s.cache ∧ u.store = s.store ∧ u.links = s.links ∧
      u.auth = s.auth := by
  have meaning := exec_computationStart frames ready waits inputs (by simp [pattern, EngineState.runs])
  rw [if_pos pattern] at meaning
  let b := advanceTo e.compute s
  obtain ⟨previous, counter, -⟩ := previous_notePredictions x.ms0 e.target x.copy b
  refine ⟨_, meaning, ?_, ?_, ?_, ?_, ?_, ?_, ?_, ?_, ?_⟩
  · have noted : (notePredictions x.ms0 e.target x.copy (advanceTo e.compute s)).timing =
        (advanceTo e.compute s).timing := by simp
    have listed : (advanceTo e.compute s).timing.frames = done ++ e :: rest := frames
    simp only [settle_frame, computePattern, setProgress, timing_setTiming, timing_setEngine, noted, listed,
      setFirstWaiting_append ready (waits e List.mem_cons_self)]
    rfl
  · simp only [settle_frame]
    exact congrArg (· + 1) counter
  · simp only [settle_frame]
    exact previous
  · simp only [settle_frame]
    rfl
  · refine predictionNoted (b := b) rfl rfl rfl rfl ?_ ?_ ?_ <;> rfl
  · simp [computePattern, setProgress]
  · simp [computePattern, setProgress]
  · simp [computePattern, setProgress]
  · simp [computePattern, setProgress]

/-! ### A computation begun in RUNNING (R135 to R137) -/

theorem openComputation_congr {s u : State} (links : u.links = s.links) (auth : u.auth = s.auth)
    (store : u.store = s.store) (cache : u.cache = s.cache) (previous : u.engine.previous = s.engine.previous)
    (x : Inputs) (p : FramePrediction) : openComputation x p u = openComputation x p s := by
  have level : recordLevel u = recordLevel s := by rw [recordLevel, link_of_links links, recordLevel]
  simp only [openComputation, level, auth, store, cache, previous]

section
variable {done rest : List Entry} {e : Entry} {x : Inputs} {s : State} {cache : Cache} {c : Computation}
  (frames : s.timing.frames = done ++ e :: rest) (ready : ∀ d ∈ done, ∃ r, d.progress = .ready r)
  (waiting : e.progress = .waiting)
  (opened : openComputation x (predictFrame x.ms0 e.target x.copy s) (notePredictions x.ms0 e.target x.copy s) =
    (cache, c))

/-- The state with its computation begun, before it is seen whether it ends at once. -/
def begun (e : Entry) (x : Inputs) (cache : Cache) (c : Computation) (s : State) : State :=
  setProgress (.computing c) ((notePredictions x.ms0 e.target x.copy s).setCache cache)

include opened in
theorem computeFrame_eq : computeFrame e x s = if c.settled || decide (0 ≤ instantDiff s.now e.cutoff)
    then onComputing (fun e c g => endComputation e c.holdMissing g) (begun e x cache c s)
    else begun e x cache c s := by
  have now : (begun e x cache c s).now = s.now := by simp [begun, setProgress, State.now]
  simp only [computeFrame, opened]
  rw [← now]
  rfl

include frames ready waiting

theorem frames_begun : (begun e x cache c s).timing.frames = done ++ { e with progress := .computing c } :: rest := by
  have noted : (notePredictions x.ms0 e.target x.copy s).timing = s.timing := by simp
  show setFirstWaiting _ (notePredictions x.ms0 e.target x.copy s).timing.frames = _
  rw [noted, frames, setFirstWaiting_append ready waiting]

include opened

theorem computeFrame_ends (stay : c.sameStay = true) (ends : c.settled = true ∨ 0 ≤ instantDiff s.now e.cutoff) :
    (computeFrame e x s).timing.frames =
      done ++ { e with progress := .ready (deliver e.format c.holdMissing) } :: rest ∧
    (computeFrame e x s).engine = { (notePredictions x.ms0 e.target x.copy s).engine with
      previous := rememberDelivered (deliver e.format c.holdMissing)
        (notePredictions x.ms0 e.target x.copy s).engine.previous } := by
  have stay : c.holdMissing.sameStay = true := stay
  rw [computeFrame_eq opened, if_pos (by simpa using ends),
    onComputing_append _ (frames_begun frames ready waiting) ready rfl, endComputation, stay]
  exact ⟨rfl, rfl⟩

theorem computeFrame_goesOn (waits : c.settled = false) (early : instantDiff s.now e.cutoff < 0) :
    (computeFrame e x s).timing.frames = done ++ { e with progress := .computing c } :: rest ∧
    (computeFrame e x s).engine = (notePredictions x.ms0 e.target x.copy s).engine := by
  rw [computeFrame_eq opened, if_neg (by simpa [waits] using early)]
  exact ⟨frames_begun frames ready waiting, rfl⟩

end

theorem engine_onComputing {f : Entry → Computation → Engine → Entry × Engine} (moves : Progresses f) (s : State) :
    ∃ v, (onComputing f s).engine = { s.engine with previous := v } := withComputing_engine moves _ _

theorem rest_computeFrame (e : Entry) (x : Inputs) (s : State) :
    (computeFrame e x s).front = (notePredictions x.ms0 e.target x.copy s).front ∧
    (computeFrame e x s).events = (notePredictions x.ms0 e.target x.copy s).events ∧
    (computeFrame e x s).engine.heldCounts = (notePredictions x.ms0 e.target x.copy s).engine.heldCounts ∧
    (computeFrame e x s).engine.lastPrediction = some (predictFrame x.ms0 e.target x.copy s).position ∧
    (computeFrame e x s).now = s.now := by
  let opened := openComputation x (predictFrame x.ms0 e.target x.copy s) (notePredictions x.ms0 e.target x.copy s)
  have now : (begun e x opened.1 opened.2 s).now = s.now := by simp [begun, setProgress, State.now]
  rw [computeFrame_eq (cache := opened.1) (c := opened.2) rfl]
  split
  · obtain ⟨v, engine⟩ := engine_onComputing progresses_endComputation (begun e x opened.1 opened.2 s)
    rw [engine]
    exact ⟨rfl, rfl, rfl, rfl, now⟩
  · exact ⟨rfl, rfl, rfl, rfl, now⟩

/-! ### CUTOFF (R136) -/

theorem exec_cutoff {done rest : List Entry} {e : Entry} {c : Computation} {s : State}
    (frames : s.timing.frames = done ++ e :: rest) (ready : ∀ d ∈ done, ∃ r, d.progress = .ready r)
    (computing : e.progress = .computing c) : exec .cutoff s =
      answer (((advanceTo e.cutoff s).setTiming { (advanceTo e.cutoff s).timing with
        frames := done ++ { e with progress := .ready (deliver e.format c.holdMissing) } :: rest }).setEngine
        (if c.sameStay then { s.engine with
          previous := rememberDelivered (deliver e.format c.holdMissing) s.engine.previous } else s.engine)) := by
  have found : computingEntry s.timing.frames = some (e, c) := by rw [frames, computingEntry_append ready computing]
  show execCutoff s = _
  simp only [execCutoff, found]
  rw [onComputing_append _ (s := advanceTo e.cutoff s) frames ready computing]
  rfl

/-- Settles O30: `computePattern` and `computeFrame` from their parts, and the cutoff of the computation in progress. -/
theorem computationsRun : Obligations.ComputationsRun := by
  refine ⟨fun done rest e x s frames ready waiting later inputs => ⟨fun pattern => ?pattern, fun running => ?running⟩,
    fun done rest e c s frames ready computing => ?cutoff⟩
  case pattern =>
    obtain ⟨u, meaning, timing, counter, previous, prediction, noted, cache, store, links, auth⟩ :=
      patternStarts frames ready (List.forall_mem_cons.2 ⟨waiting, later⟩) inputs pattern
    exact ⟨u, _, meaning, timing, rfl, rfl, rfl, rfl, rfl, rfl, rfl, rfl, counter, previous, prediction, noted, cache,
      store, links, auth⟩
  case running =>
    have meaning := exec_computationStart frames ready (List.forall_mem_cons.2 ⟨waiting, later⟩) inputs
      (by simp [running, EngineState.runs])
    rw [if_neg (by simp [running])] at meaning
    intro level f z i afterB afterS c
    let b := advanceTo e.compute s
    obtain ⟨previous, -, -⟩ := previous_notePredictions x.ms0 e.target x.copy b
    have opened : openComputation x (predictFrame x.ms0 e.target x.copy b) (notePredictions x.ms0 e.target x.copy b) =
        (prefetchAll x.ms0 level (predictFrame x.ms0 e.target x.copy s).direction
          (predictFrame x.ms0 e.target x.copy s).position s.store afterS.1, c) :=
      openComputation_congr (s := s) (by simp [b]) (by simp [b]) (by simp [b]) (by simp [b]) previous x _
    obtain ⟨front, events, held, prediction, now⟩ := rest_computeFrame e x b
    have cache : (computeFrame e x b).cache = prefetchAll x.ms0 level (predictFrame x.ms0 e.target x.copy s).direction
        (predictFrame x.ms0 e.target x.copy s).position s.store afterS.1 := by rw [cache_computeFrame, opened]
    obtain ⟨carriesB, formedB, heldB, gathersB⟩ := startBreathing_spec level f z s.auth.anchor s.store.breathing s.cache
    obtain ⟨carriesS, formedS, heldS, gathersS⟩ := startShading_spec level f z i s.store.shading afterB.1
    have carriesP := carries_prefetchAll x.ms0 level (predictFrame x.ms0 e.target x.copy s).direction
      (predictFrame x.ms0 e.target x.copy s).position s.store afterS.1
    refine ⟨_, meaning, ?_, ?_, ?_, predictionNoted (b := b) rfl rfl rfl rfl held front events, fun ends => ?_,
      fun waits early => ?_, formedB, formedS, heldB, heldS, fun bf ba bz needs gathers => ?_,
      fun bf bz bi rn needs gathers => ?_, fun k missing => ?_, by simp, by simp, by simp⟩
    · rw [now_settle, now]
      exact now_advanceTo _ s
    · simpa only [settle_frame] using cache
    · simp only [settle_frame]
      exact prediction
    · obtain ⟨listed, engine⟩ := computeFrame_ends (s := b) frames ready waiting opened rfl ends
      simp only [settle_frame]
      refine ⟨listed, ?_⟩
      rw [engine, previous]
      rfl
    · obtain ⟨listed, engine⟩ := computeFrame_goesOn (s := b) frames ready waiting opened waits early
      simp only [settle_frame]
      exact ⟨listed, (congrArg Engine.previous engine).trans previous⟩
    · exact (gathersB bf ba bz needs gathers).2
    · obtain ⟨-, tb, active, focus, zoom, iris, rn, looked⟩ := gathersS bf bz bi rn needs gathers
      refine ⟨tb, active, focus, zoom, iris, rn, ?_⟩
      exact looked.trans (List.map_congr_left fun k _ => congrArg (Need.mk k) (carriesB.cells k))
    · have kept : (settle (computeFrame e x (advanceTo e.compute s))).cache = (computeFrame e x b).cache := by simp [b]
      rw [kept, cache]
      rcases missing with ⟨bf, ba, bz, needs, gathers, awaited⟩ | ⟨bf, bz, bi, rn, needs, gathers, awaited⟩
      · obtain ⟨q, mem, key⟩ := (gathersB bf ba bz needs gathers).1 k awaited
        obtain ⟨q', mem', key'⟩ := (carriesS.trans carriesP).demand q mem
        exact ⟨q', mem', key'.trans key⟩
      · obtain ⟨q, mem, key⟩ := (gathersS bf bz bi rn needs gathers).1 k awaited
        obtain ⟨q', mem', key'⟩ := carriesP.demand q mem
        exact ⟨q', mem', key'.trans key⟩
  case cutoff =>
    have meaning := exec_cutoff frames ready computing
    refine ⟨_, meaning, by simp, by simp, (latches_of_same rfl).settle, by simp, by simp, by simp, by simp, by simp,
      by simp⟩

end Sys2Proof.Machine
end

section
/-! PROOF. What a computation delivers: brackets (R107), interpolation (R110, R118), the scale (R112 to R116, R121,
R122) and the curve (R119, R120, R123). -/

namespace Sys2Proof.Machine

/-! ### Brackets (R107) -/

/-- Knots that rise. -/
def KnotsRise (knots : List Nat) : Prop := knots.Pairwise fun a b => a < b

theorem knot_le_of_append {a k : Nat} {l pre post : List Nat} (rise : KnotsRise (a :: l))
    (split : a :: l = pre ++ k :: post) : a ≤ k := by
  have mem : k ∈ a :: l := split ▸ by simp
  rcases List.mem_cons.1 mem with here | inside
  · exact here.ge
  · exact ((List.pairwise_cons.1 rise).1 k inside).le

/-- The weight of a value between two knots. -/
def weightOf (a b x : Nat) : Nat := (roundDiv (((x - a) * 4096 : Nat) : Int) (b - a)).toNat

theorem bracketFrom_below {b x : Nat} (below : x < b) (i a : Nat) (rest : List Nat) :
    bracketFrom i a (b :: rest) x = ⟨i, i + 1, weightOf a b x, false⟩ := by
  cases rest with
  | nil => exact if_pos below
  | cons => exact if_pos below

theorem bracketFrom_above {b c x : Nat} (above : b ≤ x) (i a : Nat) (rest : List Nat) :
    bracketFrom i a (b :: c :: rest) x = bracketFrom (i + 1) b (c :: rest) x := if_neg (by omega)

/-- A value in a segment of the knots. -/
theorem bracketFrom_inside {pre post : List Nat} {a b x : Nat} (low : a ≤ x) (high : x < b) {i k : Nat} {l : List Nat}
    (rise : KnotsRise (k :: l)) (split : k :: l = pre ++ a :: b :: post) :
    bracketFrom i k l x = ⟨i + pre.length, i + pre.length + 1, weightOf a b x, false⟩ := by
  induction pre generalizing i k l with
  | nil =>
    obtain ⟨rfl, rfl⟩ := List.cons.inj split
    exact bracketFrom_below high i k post
  | cons p pre ih =>
    obtain ⟨rfl, tail⟩ := List.cons.inj split
    obtain ⟨r, c, rest, next⟩ : ∃ r c rest, l = r :: c :: rest := by
      rw [tail]
      cases pre with
      | nil => exact ⟨a, b, post, rfl⟩
      | cons q qs =>
        obtain ⟨c, rest, more⟩ := List.exists_cons_of_ne_nil (l := qs ++ a :: b :: post) (by simp)
        exact ⟨q, c, rest, congrArg (q :: ·) more⟩
    rw [next] at rise tail ⊢
    have rise : KnotsRise (r :: c :: rest) := (List.pairwise_cons.1 rise).2
    have below : r ≤ a := knot_le_of_append rise tail
    rw [bracketFrom_above (by omega), ih rise tail, List.length_cons]
    congr 1 <;> omega

/-- A value at or beyond the last knot. -/
theorem bracketFrom_last {pre : List Nat} {last x : Nat} (beyond : last ≤ x) {i k : Nat} {l : List Nat}
    (rise : KnotsRise (k :: l)) (split : k :: l = pre ++ [last]) (more : l ≠ []) :
    bracketFrom i k l x = ⟨i + pre.length - 1, i + pre.length, 4096, decide (last < x)⟩ := by
  induction pre generalizing i k l with
  | nil => simp_all
  | cons p pre ih =>
    obtain ⟨rfl, tail⟩ := List.cons.inj split
    cases pre with
    | nil =>
      have tail : l = [last] := tail
      rw [tail]
      exact if_neg (by omega)
    | cons q qs =>
      obtain ⟨c, rest, next⟩ := List.exists_cons_of_ne_nil (l := qs ++ [last]) (by simp)
      have tail : l = q :: c :: rest := tail.trans (congrArg (q :: ·) next)
      rw [tail] at rise ⊢
      have rise : KnotsRise (q :: c :: rest) := (List.pairwise_cons.1 rise).2
      have split : q :: c :: rest = (q :: qs) ++ [last] := congrArg (q :: ·) next.symm
      have below : q ≤ last := knot_le_of_append rise split
      rw [bracketFrom_above (by omega), ih rise split (by simp)]
      simp only [List.length_cons]
      congr 1 <;> omega

theorem weightOf_self (a b : Nat) : weightOf a b a = 0 := by simp [weightOf]

/-- The row of R107 that a value meets. -/
theorem bracket_spec {knots : List Nat} (x : Nat) (rise : KnotsRise knots) (two : 2 ≤ knots.length) :
    (∀ k rest, knots = k :: rest → x ≤ k → bracket knots x = ⟨0, 1, 0, decide (x < k)⟩) ∧
    (∀ pre k, knots = pre ++ [k] → k ≤ x →
      bracket knots x = ⟨knots.length - 2, knots.length - 1, 4096, decide (k < x)⟩) ∧
    (∀ pre a b post, knots = pre ++ a :: b :: post → a ≤ x → x < b →
      bracket knots x = ⟨pre.length, pre.length + 1, weightOf a b x, false⟩) := by
  obtain ⟨k, b, rest, rfl⟩ : ∃ k b rest, knots = k :: b :: rest := by
    match knots, two with
    | k :: b :: rest, _ => exact ⟨k, b, rest, rfl⟩
  refine ⟨fun k' rest' split low => ?_, fun pre last split beyond => ?_, fun pre a b' post split low high => ?_⟩
  · obtain ⟨rfl, -⟩ := List.cons.inj split
    exact if_pos low
  · have length : rest.length + 2 = pre.length + 1 := by simpa using congrArg List.length split
    have above : k < last := by
      have mem : last ∈ b :: rest := by
        cases pre with
        | nil => simp at length
        | cons p pre => exact (List.cons.inj split).2 ▸ by simp
      exact (List.pairwise_cons.1 rise).1 last mem
    have from_ : bracket (k :: b :: rest) x = bracketFrom 0 k (b :: rest) x := if_neg (by omega)
    rw [from_, bracketFrom_last beyond rise split (by simp), List.length_cons, List.length_cons]
    congr 1 <;> omega
  · by_cases first : x ≤ k
    · have start : k ≤ a := knot_le_of_append rise split
      have none : pre = [] := by
        cases pre with
        | nil => rfl
        | cons p pre =>
          obtain ⟨rfl, tail⟩ := List.cons.inj split
          have later : k < a := (List.pairwise_cons.1 rise).1 a (tail ▸ by simp)
          omega
      have here : x = a := by omega
      have from_ : bracket (k :: b :: rest) x = ⟨0, 1, 0, decide (x < k)⟩ := if_pos first
      rw [from_, none, here, weightOf_self]
      simp [start]
    · have from_ : bracket (k :: b :: rest) x = bracketFrom 0 k (b :: rest) x := if_neg first
      rw [from_, bracketFrom_inside low high rise split, Nat.zero_add]

/-! ### Interpolation (R110, R118) -/

/-- A value mixed between the two knots of a bracket by their shares. -/
def mixed (b : Bracket) (g : Nat → Int) : Int := ((4096 - b.weight : Nat) : Int) * g b.lower + b.weight * g b.upper

theorem mixCorners_cons (needs : List Need) (field : Cell → Int) (c : Corner) (cs : List Corner) :
    mixCorners needs field (c :: cs) = c.weight * needField needs field c.key + mixCorners needs field cs := by
  rw [mixCorners]
  split
  case isTrue none => simp [none]
  case isFalse => rfl

theorem bilinear_eq (needs : List Need) (f z : Bracket) (field : Cell → Int) : bilinear needs f z field =
    roundDiv (mixed f fun x => mixed z fun y => needField needs field ⟨.breathing, x, y, 0⟩) 16777216 := by
  rw [bilinear]
  congr 1
  simp only [breathingCorners, Bracket.shares, List.flatMap_cons, List.flatMap_nil, List.map_cons, List.map_nil,
    List.cons_append, List.nil_append, List.append_nil, mixCorners_cons, mixed]
  simp only [mixCorners]
  push_cast
  ring

theorem trilinear_eq (needs : List Need) (f z i : Bracket) (j : Nat) : trilinear needs f z i j =
    roundDiv (mixed f fun x => mixed z fun y => mixed i fun k => needField needs (Cell.gain j) ⟨.shading, x, y, k⟩)
      68719476736 := by
  rw [trilinear]
  congr 1
  simp only [shadingCorners, Bracket.shares, List.flatMap_cons, List.flatMap_nil, List.map_cons, List.map_nil,
    List.cons_append, List.nil_append, List.append_nil, mixCorners_cons, mixed]
  simp only [mixCorners]
  push_cast
  ring

end Sys2Proof.Machine
end

section
/-! PROOF. The delivered scale and curve (R112 to R116, R119 to R123). -/

namespace Sys2Proof.Machine

/-! ### The scale (R114 to R116, R122) -/

/-- A value within the slew limit of the previously delivered scale (R115). -/
def slewedOf (ms1 : MS1) (previous : Previous) (v : Int) : Int :=
  match previous.scale with
  | none => v
  | some p => if ms1.slewLimit = 0 ∨ previous.first = true ∨ (v - p).natAbs ≤ ms1.slewLimit then v
    else if p < v then p + ms1.slewLimit else p - ms1.slewLimit

theorem slewScale_eq (ms1 : MS1) (previous : Previous) (v : Int) : slewScale ms1.slewLimit previous v =
    (slewedOf ms1 previous v, decide (slewedOf ms1 previous v ≠ v)) := by
  unfold slewScale slewedOf
  by_cases free : ms1.slewLimit = 0
  · cases previous.scale <;> simp [free]
  · by_cases first : previous.first = true
    · cases previous.scale <;> simp [first]
    · cases previous.scale with
      | none => simp
      | some p =>
        by_cases near : (v - p).natAbs ≤ ms1.slewLimit
        · simp [near]
        · by_cases rises : p < v
          · have moved : p + ms1.slewLimit ≠ v := by omega
            simp [free, first, near, rises, moved]
          · have moved : p - ms1.slewLimit ≠ v := by omega
            simp [free, first, near, rises, moved]

/-- What the previous scale itself is slewed to. -/
theorem slewedOf_previous (ms1 : MS1) (previous : Previous) :
    slewedOf ms1 previous (previous.scale.getD 1000000) = previous.scale.getD 1000000 := by
  unfold slewedOf
  cases previous.scale with
  | none => rfl
  | some p => simp

theorem slewedOf_near {ms1 : MS1} {previous : Previous} {p : Int} (limited : ms1.slewLimit ≠ 0)
    (scale : previous.scale = some p) (later : previous.first = false) (v : Int) :
    (slewedOf ms1 previous v - p).natAbs ≤ ms1.slewLimit := by
  simp only [slewedOf, scale, limited, later, Bool.false_eq_true, false_or]
  split
  case isTrue near => exact near
  case isFalse =>
    split
    · rw [add_sub_cancel_left]
      simp
    · have less : p - (ms1.slewLimit : Int) - p = -(ms1.slewLimit : Int) := by omega
      rw [less]
      simp

/-- A scale result that carries a value through the slew limit and the range guard (R115, R116). -/
def CarriesScale (f : FrameFormat) (ms1 : MS1) (previous : Previous) (r : ScaleResult) (v : Int) (clamped : Prop) :
    Prop :=
  let lo : Int := 1000000 - f.margin
  let hi : Int := 1000000 + f.cropLimit
  let slewed := slewedOf ms1 previous v
  r.scale = max lo (min hi slewed) ∧ (r.first = true ↔ previous.first = true ∨ slewed < lo ∨ hi < slewed) ∧
    (r.clamped = true ↔ clamped ∨ slewed < lo ∨ hi < slewed) ∧
    (r.slewed = true ↔ slewed ≠ v ∧ lo ≤ slewed ∧ slewed ≤ hi)

theorem scaleMin_le_scaleMax (f : FrameFormat) : scaleMin f ≤ scaleMax f := by
  simp only [scaleMin, scaleMax]
  omega

theorem carriesScale_rangeGuard (f : FrameFormat) (ms1 : MS1) (previous : Previous) (v : Int) (clamped : Bool) :
    CarriesScale f ms1 previous (rangeGuard f
      ⟨slewedOf ms1 previous v, previous.first, clamped, decide (slewedOf ms1 previous v ≠ v)⟩) v (clamped = true) := by
  unfold CarriesScale rangeGuard
  dsimp only
  have order := scaleMin_le_scaleMax f
  have low : scaleMin f = 1000000 - f.margin := rfl
  have high : scaleMax f = 1000000 + f.cropLimit := rfl
  rw [← low, ← high]
  generalize slewedOf ms1 previous v = w
  split
  case isTrue outside =>
    have outside : w < scaleMin f ∨ scaleMax f < w := outside
    exact ⟨clampInt_eq order w, by simp [outside], by simp [outside], by simpa using fun _ => by omega⟩
  case isFalse inside =>
    have inside : ¬ (w < scaleMin f ∨ scaleMax f < w) := inside
    have within : scaleMin f ≤ w ∧ w ≤ scaleMax f := by omega
    have same : w = max (scaleMin f) (min (scaleMax f) w) := by omega
    exact ⟨same, by simp [inside], by simp [inside], by simp [within]⟩

theorem carriesScale_computed (f : FrameFormat) (ms1 : MS1) (previous : Previous) (sk : Int) :
    CarriesScale f ms1 previous (computedScale f ms1 previous sk)
      (max (1000000 - (f.margin : Int)) (min (1000000 + f.cropLimit) sk))
      (max (1000000 - (f.margin : Int)) (min (1000000 + f.cropLimit) sk) ≠ sk) := by
  have clamp : clampInt (scaleMin f) (scaleMax f) sk =
      max (1000000 - (f.margin : Int)) (min (1000000 + f.cropLimit) sk) :=
    clampInt_eq (scaleMin_le_scaleMax f) sk
  have carried := carriesScale_rangeGuard f ms1 previous (clampInt (scaleMin f) (scaleMax f) sk)
    (decide (clampInt (scaleMin f) (scaleMax f) sk ≠ sk))
  rw [decide_eq_true_eq] at carried
  rw [← clamp, computedScale, slewScale_eq]
  exact carried

theorem carriesScale_hold (f : FrameFormat) (ms1 : MS1) (previous : Previous) :
    CarriesScale f ms1 previous (heldScale f ms1 .hold previous) (previous.scale.getD 1000000) False := by
  have carried := carriesScale_rangeGuard f ms1 previous (previous.scale.getD 1000000) false
  rw [slewedOf_previous] at carried
  simpa [heldScale] using carried

theorem carriesScale_neutral (f : FrameFormat) (ms1 : MS1) (previous : Previous) :
    CarriesScale f ms1 previous (heldScale f ms1 .neutral previous) 1000000 False := by
  have carried := carriesScale_rangeGuard f ms1 previous 1000000 false
  rw [heldScale, slewScale_eq]
  simpa using carried

/-- A scale that is formed is some value carried through the slew limit and the range guard. -/
theorem carriesScale_deliver {f : FrameFormat} {c : Computation} (formed : c.breathing ≠ .notFormed) :
    ∃ v clamped, CarriesScale f c.ms1 c.previous (deliverScale f c).1 v clamped := by
  cases breathing : c.breathing with
  | notFormed => exact absurd breathing formed
  | held =>
    have scale : (deliverScale f c).1 = heldScale f c.ms1 c.policy c.previous := by simp [deliverScale, breathing]
    rw [scale]
    cases c.policy with
    | hold => exact ⟨_, _, carriesScale_hold f c.ms1 c.previous⟩
    | neutral => exact ⟨_, _, carriesScale_neutral f c.ms1 c.previous⟩
  | gathering bf ba bz needs =>
    have scale : (deliverScale f c).1 = computedScale f c.ms1 c.previous (strengthScale c.ms1.strength
        (rawScale (bilinear needs ba bz Cell.m) (bilinear needs bf bz Cell.m))) := by simp [deliverScale, breathing]
    rw [scale]
    exact ⟨_, _, carriesScale_computed f c.ms1 c.previous _⟩

/-! ### The curve (R119, R120, R123) -/

theorem capGains_fst (cap : Nat) (enough : 4096 ≤ cap) (gains : List Int) :
    (capGains cap gains).1 = gains.map fun g => max 4096 (min (cap : Int) g) :=
  List.map_congr_left fun g _ => clampInt_eq (by omega) g

theorem capGains_snd (cap : Nat) (enough : 4096 ≤ cap) (gains : List Int) :
    (capGains cap gains).2 = true ↔ ∃ g ∈ gains, g < 4096 ∨ cap < g := by
  have changed (g : Int) : clampInt 4096 cap g ≠ g ↔ g < 4096 ∨ cap < g := by
    rw [clampInt_eq (by omega)]
    omega
  simp only [capGains, List.any_eq_true, decide_eq_true_eq, changed]

theorem mem_capGains {cap : Nat} (enough : 4096 ≤ cap) {gains : List Int} {g : Int} (mem : g ∈ (capGains cap gains).1) :
    4096 ≤ g ∧ g ≤ cap := by
  rw [capGains_fst cap enough] at mem
  obtain ⟨v, -, rfl⟩ := List.mem_map.1 mem
  omega

theorem gains_deliver {f : FrameFormat} {c : Computation} (enough : 4096 ≤ c.ms2.gainCap) {g : Int}
    (mem : g ∈ (deliver f c).gains) : 4096 ≤ g ∧ g ≤ c.ms2.gainCap := by
  have mem : g ∈ (deliverCurve f c (deliverScale f c).1.scale).1.gains := mem
  cases shading : c.shading with
  | notFormed => simp [deliverCurve, shading] at mem
  | held =>
    simp only [deliverCurve, shading, heldCurve] at mem
    exact mem_capGains enough mem
  | gathering bf bz bi rn needs =>
    simp only [deliverCurve, shading, computedCurve] at mem
    exact mem_capGains enough mem

theorem getD_rangeMap (h : Nat → Int) {j : Nat} (inside : j < 9) : ((List.range 9).map h).getD j 0 = h j := by
  simp [List.getD_eq_getElem?_getD, inside]

theorem curveAt_rangeMap (h : Nat → Int) (rho : Nat) : curveAt ((List.range 9).map h) rho =
    if 8 ≤ rho / 512 then h 8
    else h (rho / 512) + roundDiv ((h (rho / 512 + 1) - h (rho / 512)) *
        ((rho - 512 * (rho / 512) : Nat) : Int)) 512 := by
  unfold curveAt
  dsimp only
  split
  case isTrue => exact getD_rangeMap h (by omega)
  case isFalse => rw [getD_rangeMap h (by omega), getD_rangeMap h (by omega)]

/-- The value of a table curve at a table radius (R119). -/
def valueAt (curve : Nat → Int) (rho : Nat) : Int :=
  if 8 ≤ rho / 512 then curve 8
  else curve (rho / 512) + roundDiv ((curve (rho / 512 + 1) - curve (rho / 512)) *
      ((rho - 512 * (rho / 512) : Nat) : Int)) 512

/-- A computed curve by the gains before the cap and by the table radii (R119, R120). -/
theorem computedCurve_spec (ms2 : MS2) (enough : 4096 ≤ ms2.gainCap) (hd rn : Nat) (s : Int) (curve : Nat → Int)
    {radius : Nat → Nat} (radii : tableRadius hd rn s = radius) {gain : Nat → Int}
    (gains : ∀ j, strengthGain ms2.strength (valueAt curve (radius j)) = gain j) :
    let r := computedCurve ms2 hd rn s ((List.range 9).map curve)
    r.gains = (List.range 9).map (fun j => max 4096 (min (ms2.gainCap : Int) (gain j))) ∧
    (r.capped = true ↔ ∃ j < 9, gain j < 4096 ∨ ms2.gainCap < gain j) ∧
    (r.beyond = true ↔ ∃ j < 9, 4096 < radius j) := by
  have each : ((List.range 9).map radius).map
      (fun r => strengthGain ms2.strength (curveAt ((List.range 9).map curve) r)) =
      (List.range 9).map gain := by
    rw [List.map_map]
    exact List.map_congr_left fun j _ => (congrArg _ (curveAt_rangeMap curve (radius j))).trans (gains j)
  simp only [computedCurve, radii, each]
  refine ⟨?_, ?_, by simp⟩
  · rw [capGains_fst _ enough, List.map_map]
    rfl
  · rw [capGains_snd _ enough]
    simp

/-- Settles O32: brackets, then the scale and the curve by the work that each quantity has. -/
theorem deliveredValuesStayInRange : Obligations.DeliveredValuesStayInRange := by
  refine ⟨fun f c range => ⟨fun formed => ?range, fun p formed limited previous later => ?near,
    fun enough g mem => gains_deliver enough mem, fun held => by simp [deliver, deliverScale, held],
    fun held => by simp [deliver, deliverCurve, held]⟩, fun k x => rfl, fun knots x rise two => bracket_spec x rise two,
    fun f c => ?values⟩
  case range =>
    obtain ⟨v, clamped, scale, -⟩ := carriesScale_deliver (f := f) formed
    have scale : (deliver f c).scale = _ := scale
    rw [scale]
    omega
  case near =>
    obtain ⟨v, clamped, scale, first, -⟩ := carriesScale_deliver (f := f) formed
    have scale : (deliver f c).scale = _ := scale
    have kept : ¬ (c.previous.first = true ∨ _) := fun lifted => by
      have lifted : (deliver f c).flags.first = true := first.2 lifted
      simp [later] at lifted
    obtain ⟨running, inside⟩ := not_or.1 kept
    have near := slewedOf_near limited previous (by simpa using running) v
    rw [scale]
    omega
  case values =>
    intro d lo hi slewed carries received mix
    refine ⟨fun bf ba bz needs gathers => ?gathering, fun held => ?held, fun bf bz bi rn needs gathers enough => ?curve,
      fun held enough => ?heldCurve⟩
    case gathering =>
      intro at_ raw k1 sk shift
      have image (b : Bracket) (field : Cell → Int) : bilinear needs b bz field = at_ b field :=
        bilinear_eq needs b bz field
      have moved (field : Cell → Int) : shiftOf c.ms1 (at_ bf field) (at_ ba field) = shift field := by
        have clamp (x : Int) : clampInt (-10000) 10000 x = max (-10000) (min 10000 x) := clampInt_eq (by decide) x
        simp only [shiftOf, clamp]
        rfl
      have work : deliverScale f c =
          (computedScale f c.ms1 c.previous sk, (shift Cell.dx, shift Cell.dy), false) := by
        simp only [deliverScale, gathers, image, moved]
        rfl
      have scale : CarriesScale f c.ms1 c.previous (deliverScale f c).1 (max lo (min hi sk))
          (max lo (min hi sk) ≠ sk) := by
        rw [work]
        exact carriesScale_computed f c.ms1 c.previous sk
      exact ⟨scale, congrArg (fun x => x.2.2) work, congrArg (fun x => x.2.1.1) work, congrArg (fun x => x.2.1.2) work⟩
    case held =>
      have work : deliverScale f c =
          (heldScale f c.ms1 c.policy c.previous, heldShift c.policy c.previous, true) := by
        simp only [deliverScale, held]
      refine ⟨fun hold => ?_, fun neutral => ?_⟩
      · have scale : CarriesScale f c.ms1 c.previous (deliverScale f c).1 (c.previous.scale.getD 1000000) False := by
          rw [work, hold]
          exact carriesScale_hold f c.ms1 c.previous
        rw [hold] at work
        exact ⟨scale, congrArg (fun x => x.2.1) work⟩
      · have scale : CarriesScale f c.ms1 c.previous (deliverScale f c).1 1000000 False := by
          rw [work, neutral]
          exact carriesScale_neutral f c.ms1 c.previous
        rw [neutral] at work
        exact ⟨scale, congrArg (fun x => x.2.1.1) work, congrArg (fun x => x.2.1.2) work⟩
    case curve =>
      intro curve radius value gain
      have mixes : trilinear needs bf bz bi = curve := funext fun j => trilinear_eq needs bf bz bi j
      have work : deliverCurve f c d.scale = (computedCurve c.ms2 f.hd rn d.scale ((List.range 9).map curve),
          false) := by
        simp only [deliverCurve, gathers, mixes]
      obtain ⟨gains, capped, beyond⟩ := computedCurve_spec c.ms2 enough f.hd rn d.scale curve (radius := radius) rfl
        (gain := gain) fun j => rfl
      have result : (deliverCurve f c d.scale).1 = computedCurve c.ms2 f.hd rn d.scale ((List.range 9).map curve) :=
        congrArg Prod.fst work
      rw [← result] at gains capped beyond
      exact ⟨gains, capped, beyond, congrArg Prod.snd work⟩
    case heldCurve =>
      intro curve
      have kept : heldCurve c.ms2 c.policy c.previous =
          ⟨(capGains c.ms2.gainCap curve).1, (capGains c.ms2.gainCap curve).2, false⟩ := rfl
      have work : deliverCurve f c d.scale = (⟨(capGains c.ms2.gainCap curve).1, (capGains c.ms2.gainCap curve).2,
          false⟩, true) := by
        simp only [deliverCurve, held, kept]
      refine ⟨(congrArg (fun x => x.1.gains) work).trans (capGains_fst _ enough _), ?_,
        congrArg (fun x => x.1.beyond) work⟩
      have capped : d.flags.shadingCapped = (capGains c.ms2.gainCap curve).2 := congrArg (fun x => x.1.capped) work
      rw [capped]
      exact capGains_snd _ enough _

end Sys2Proof.Machine
end

section
/-! PROOF. What a scan reads: verdicts (R50, R55 to R57), the choice of a kind's table (R58) and the working description
(R53, R54, R191). -/

namespace Sys2Proof.Machine

/-! ### Verdicts (R57) -/

theorem ascending_iff (xs : List Nat) : ascending xs = true ↔ xs.Pairwise fun x y => x < y := by
  rw [← List.isChain_iff_pairwise]
  induction xs with
  | nil => simp [ascending]
  | cons x xs ih =>
    cases xs with
    | nil => simp [ascending]
    | cons y ys => simp [ascending, ih]

/-- The third check of R57: knot counts in range and every list strictly ascending. -/
def KnotsGood (t : ActiveTable) : Prop :=
  2 ≤ t.focus.length ∧ t.focus.length ≤ 16 ∧ 1 ≤ t.zoom.length ∧ t.zoom.length ≤ 12 ∧ 1 ≤ t.iris.length ∧
    t.iris.length ≤ 10 ∧ t.focus.Pairwise (fun x y => x < y) ∧ t.zoom.Pairwise (fun x y => x < y) ∧
    t.iris.Pairwise fun x y => x < y

theorem knotsPass_iff (t : ActiveTable) : knotsPass t = true ↔ KnotsGood t := by
  simp only [knotsPass, KnotsGood, Bool.and_eq_true, decide_eq_true_eq, ascending_iff, and_assoc]

theorem length_knotsAt (m : List Host.Cell) (a n : Nat) : (knotsAt m a n).length = n := by simp [knotsAt]

theorem flash16_lt (m : List Host.Cell) (a : Nat) : flash16 m a < 65536 := by
  have low := (flashRead m a).isLt
  have high := (flashRead m (a + 1)).isLt
  unfold flash16
  omega

theorem kindOf_eq_some (n : Nat) (k : TableKind) : kindOf n = some k ↔ n = k.code := by
  unfold kindOf
  split
  · cases k <;> simp [TableKind.code]
  · cases k <;> simp [TableKind.code]
  case h_3 zero one =>
    cases k
    · exact iff_of_false nofun zero
    · exact iff_of_false nofun one

/-- The verdict of a sector whose header names a kind. -/
theorem sectorVerdict_of_kind {m : List Host.Cell} {n : BitVec 3} {k : TableKind} {good : Prop} [Decidable good]
    {length : Nat} (kind : kindOf (flashRead m (sectorBase n + 2)).toNat = some k)
    (knots : KnotsGood (tableAt m n k) ↔ good) (long : tableLength k (tableAt m n k) = length) : sectorVerdict m n =
      if flash16 m (sectorBase n + 3) = 0 ∨ flash16 m (sectorBase n + 3) = 65535 then .noGeneration
      else if ¬ good then .badKnots
      else if flash32 m (sectorBase n + 5) ≠ length then .lengthMismatch
      else if crc16 (flashBytes m (sectorBase n + 2) (length - 2)) ≠ BitVec.ofNat 16 (flash16 m (sectorBase n))
        then .crcFail
      else .valid := by
  have bound := flash16_lt m (sectorBase n + 3)
  have kind : kindOf (headerAt m n).kind = some k := kind
  have failed : (!knotsPass (tableAt m n k)) = true ↔ ¬ good := by rw [← knots, ← knotsPass_iff]; simp
  unfold sectorVerdict
  dsimp only
  rw [kind]
  refine if_congr ?_ rfl ?_
  · show flash16 m (sectorBase n + 3) = 0 ∨ 65534 < flash16 m (sectorBase n + 3) ↔ _
    omega
  · dsimp only
    rw [long]
    exact if_congr failed rfl rfl

/-- The verdict of a sector whose header names no kind. -/
theorem sectorVerdict_of_noKind {m : List Host.Cell} {n : BitVec 3}
    (kind : kindOf (flashRead m (sectorBase n + 2)).toNat = none) : sectorVerdict m n =
      if flash16 m (sectorBase n + 3) = 0 ∨ flash16 m (sectorBase n + 3) = 65535 then .noGeneration else .badKind := by
  have bound := flash16_lt m (sectorBase n + 3)
  have kind : kindOf (headerAt m n).kind = none := kind
  unfold sectorVerdict
  dsimp only
  rw [kind]
  refine if_congr ?_ rfl rfl
  show flash16 m (sectorBase n + 3) = 0 ∨ 65534 < flash16 m (sectorBase n + 3) ↔ _
  omega

theorem tableAt_breathing (m : List Host.Cell) (n : BitVec 3) :
    let b := 65536 * n.toNat
    let nf := (flashRead m (b + 9)).toNat
    let nz := (flashRead m (b + 10)).toNat
    tableAt m n .breathing = ⟨n, flash16 m (b + 3), knotsAt m (b + 11) nf, knotsAt m (b + (11 + 2 * nf)) nz, [0],
        0⟩ := by
  intro b nf nz
  rw [← Nat.add_assoc]
  rfl

theorem tableAt_shading (m : List Host.Cell) (n : BitVec 3) :
    let b := 65536 * n.toNat
    let nf := (flashRead m (b + 9)).toNat
    let nz := (flashRead m (b + 10)).toNat
    let ni := (flashRead m (b + 11)).toNat
    tableAt m n .shading = ⟨n, flash16 m (b + 3), knotsAt m (b + 14) nf, knotsAt m (b + (14 + 2 * nf)) nz,
      knotsAt m (b + (14 + 2 * nf + 2 * nz)) ni, max 5000 (min 40000 (flash16 m (b + 12)))⟩ := by
  intro b nf nz ni
  have clamp (x : Nat) : max 5000 (min 40000 x) = clampNat 5000 40000 x := by
    rw [clampNat_eq (by omega)]
    omega
  have place : b + (14 + 2 * nf + 2 * nz) = b + 14 + 2 * nf + 2 * nz := by omega
  rw [← Nat.add_assoc, place, clamp]
  rfl

/-- The first check of R57 that fails, and the table of a header that names a kind. -/
theorem sectorVerdict_spec (m : List Host.Cell) (n : BitVec 3) :
    let b := 65536 * n.toNat
    let kind := (flashRead m (b + 2)).toNat
    let generation := flash16 m (b + 3)
    let nf := (flashRead m (b + 9)).toNat
    let nz := (flashRead m (b + 10)).toNat
    let ni := if kind = 0 then 1 else (flashRead m (b + 11)).toNat
    let knots := fun first count => (List.range count).map fun i => flash16 m (b + first + 2 * i)
    let first := if kind = 0 then 11 else 14
    let focus := knots first nf
    let zoom := knots (first + 2 * nf) nz
    let iris := if kind = 0 then [0] else knots (first + 2 * nf + 2 * nz) ni
    let length := first + 2 * nf + 2 * nz + (if kind = 0 then 0 else 2 * ni) +
      nf * nz * ni * (if kind = 0 then 8 else 18)
    sectorVerdict m n =
      (if generation = 0 ∨ generation = 65535 then .noGeneration
      else if 1 < kind then .badKind
      else if ¬(2 ≤ nf ∧ nf ≤ 16 ∧ 1 ≤ nz ∧ nz ≤ 12 ∧ 1 ≤ ni ∧ ni ≤ 10 ∧ focus.Pairwise (fun x y => x < y) ∧
        zoom.Pairwise (fun x y => x < y) ∧ iris.Pairwise (fun x y => x < y)) then .badKnots
      else if flash32 m (b + 5) ≠ length then .lengthMismatch
      else if crc16 (flashBytes m (b + 2) (length - 2)) ≠ BitVec.ofNat 16 (flash16 m b) then .crcFail
      else .valid) ∧
    ∀ k : TableKind, kind = k.code → tableAt m n k = ⟨n, generation, focus, zoom, iris,
      if kind = 0 then 0 else max 5000 (min 40000 (flash16 m (b + 12)))⟩ := by
  intro b kind generation nf nz ni knots first focus zoom iris length
  have tables (k : TableKind) (named : kind = k.code) : tableAt m n k = ⟨n, generation, focus, zoom, iris,
      if kind = 0 then 0 else max 5000 (min 40000 (flash16 m (b + 12)))⟩ := by
    cases k with
    | breathing =>
      have zero : kind = 0 := named
      simp only [tableAt_breathing, focus, zoom, iris, first, zero, if_true]
      rfl
    | shading =>
      have other : kind ≠ 0 := by rw [named]; decide
      simp only [tableAt_shading, focus, zoom, iris, first, ni, other, if_false]
      rfl
  refine ⟨?_, tables⟩
  cases found : kindOf kind with
  | none =>
    have high : 1 < kind := by
      have zero : kind ≠ 0 := fun zero => by simp [zero, kindOf] at found
      have one : kind ≠ 1 := fun one => by simp [one, kindOf] at found
      omega
    rw [sectorVerdict_of_noKind found, if_pos high]
    rfl
  | some k =>
    have named : kind = k.code := (kindOf_eq_some kind k).1 found
    have low : ¬ 1 < kind := by rw [named]; cases k <;> decide
    have counts : focus.length = nf ∧ zoom.length = nz ∧ iris.length = ni := by
      refine ⟨by simp [focus, knots], by simp [zoom, knots], ?_⟩
      by_cases zero : kind = 0 <;> simp [iris, ni, knots, zero]
    obtain ⟨focusCount, zoomCount, irisCount⟩ := counts
    have long : tableLength k (tableAt m n k) = length := by
      rw [tables k named]
      cases k with
      | breathing =>
        have zero : kind = 0 := named
        simp only [tableLength, headerLength, cellLength, focusCount, zoomCount, irisCount, length, first, zero,
          if_true]
        omega
      | shading =>
        have other : kind ≠ 0 := by rw [named]; decide
        simp only [tableLength, headerLength, cellLength, focusCount, zoomCount, irisCount, length, first, other,
          if_false]
        omega
    have good : KnotsGood (tableAt m n k) ↔ (2 ≤ nf ∧ nf ≤ 16 ∧ 1 ≤ nz ∧ nz ≤ 12 ∧ 1 ≤ ni ∧ ni ≤ 10 ∧
        focus.Pairwise (fun x y => x < y) ∧ zoom.Pairwise (fun x y => x < y) ∧ iris.Pairwise (fun x y => x < y)) := by
      rw [tables k named]
      simp only [KnotsGood, focusCount, zoomCount, irisCount]
    rw [sectorVerdict_of_kind found good long, if_neg low]
    rfl

/-! ### The choice of a table (R58) -/

/-- A sector that qualifies for a kind. -/
def Qualifies (m : List Host.Cell) (k : TableKind) (n : BitVec 3) : Prop :=
  sectorVerdict m n = .valid ∧ (flashRead m (65536 * n.toNat + 2)).toNat = k.code

theorem offers_of_qualifies {m : List Host.Cell} {k : TableKind} {n : BitVec 3} (good : Qualifies m k n) :
    offers m k n = some (tableAt m n k) := by
  obtain ⟨valid, kind⟩ := good
  exact if_pos ⟨valid, (kindOf_eq_some _ k).2 kind⟩

theorem offers_of_not {m : List Host.Cell} {k : TableKind} {n : BitVec 3} (bad : ¬ Qualifies m k n) :
    offers m k n = none := by
  refine if_neg fun good => bad ⟨good.1, ?_⟩
  exact (kindOf_eq_some _ k).1 good.2

theorem generation_tableAt (m : List Host.Cell) (n : BitVec 3) (k : TableKind) :
    (tableAt m n k).generation = flash16 m (65536 * n.toNat + 3) := by
  cases k <;> rfl

/-- The best table that some sectors offer. -/
def bestOf (m : List Host.Cell) (k : TableKind) (ns : List (BitVec 3)) : Option ActiveTable :=
  ns.foldr (fun n best => betterTable (offers m k n) best) none

theorem bestOf_cons (m : List Host.Cell) (k : TableKind) (n : BitVec 3) (ns : List (BitVec 3)) :
    bestOf m k (n :: ns) = betterTable (offers m k n) (bestOf m k ns) := rfl

/-- The best table is of one of the sectors, and that one qualifies. -/
theorem exists_of_bestOf {m : List Host.Cell} {k : TableKind} {ns : List (BitVec 3)} {t : ActiveTable}
    (best : bestOf m k ns = some t) : ∃ n ∈ ns, Qualifies m k n ∧ t = tableAt m n k := by
  induction ns with
  | nil => cases best
  | cons n ns ih =>
    rw [bestOf_cons] at best
    have later (rest : bestOf m k ns = some t) : ∃ j ∈ n :: ns, Qualifies m k j ∧ t = tableAt m j k := by
      obtain ⟨j, mem, good⟩ := ih rest
      exact ⟨j, List.mem_cons_of_mem _ mem, good⟩
    by_cases good : Qualifies m k n
    · have here : ∃ j ∈ n :: ns, Qualifies m k j ∧ tableAt m n k = tableAt m j k :=
        ⟨n, List.mem_cons_self, good, rfl⟩
      rw [offers_of_qualifies good] at best
      cases rest : bestOf m k ns with
      | none =>
        rw [rest] at best
        cases best
        exact here
      | some r =>
        rw [rest] at best
        simp only [betterTable] at best
        split at best
        · cases best
          exact here
        · cases best
          exact later rest
    · rw [offers_of_not good] at best
      exact later best

/-- Of sectors in order the best table is the highest generation's, in the lowest such sector. -/
theorem bestOf_eq {m : List Host.Cell} {k : TableKind} {n : BitVec 3} {ns : List (BitVec 3)} (mem : n ∈ ns)
    (good : Qualifies m k n) (order : ns.Pairwise fun i j => i.toNat < j.toNat)
    (best : ∀ j ∈ ns, Qualifies m k j → flash16 m (65536 * j.toNat + 3) < flash16 m (65536 * n.toNat + 3) ∨
      (flash16 m (65536 * j.toNat + 3) = flash16 m (65536 * n.toNat + 3) ∧ n.toNat ≤ j.toNat)) :
    bestOf m k ns = some (tableAt m n k) := by
  induction ns with
  | nil => cases mem
  | cons x xs ih =>
    obtain ⟨after, order⟩ := List.pairwise_cons.1 order
    rw [bestOf_cons]
    rcases List.mem_cons.1 mem with rfl | inside
    · rw [offers_of_qualifies good]
      cases rest : bestOf m k xs with
      | none => rfl
      | some r =>
        obtain ⟨j, later, goodJ, rfl⟩ := exists_of_bestOf rest
        have lower := best j (List.mem_cons_of_mem _ later) goodJ
        simp only [betterTable, generation_tableAt]
        exact if_pos (by omega)
    · rw [ih inside order fun j later => best j (List.mem_cons_of_mem _ later)]
      by_cases goodX : Qualifies m k x
      · have lower := best x List.mem_cons_self goodX
        have before := after n inside
        rw [offers_of_qualifies goodX]
        simp only [betterTable, generation_tableAt]
        exact if_neg (by omega)
      · rw [offers_of_not goodX]
        rfl

theorem mem_tableSectors (n : BitVec 3) : n ∈ tableSectors ↔ n ≠ 0 ∧ n ≠ 7 := by
  revert n
  decide

theorem chooseTable_spec (m : List Host.Cell) (k : TableKind) :
    let qualifies := fun n : BitVec 3 => n ≠ 0 ∧ n ≠ 7 ∧ sectorVerdict m n = .valid ∧
      (flashRead m (65536 * n.toNat + 2)).toNat = k.code
    let generation := fun n : BitVec 3 => flash16 m (65536 * n.toNat + 3)
    ((∀ n, ¬qualifies n) → chooseTable m k = none) ∧
    ∀ n, qualifies n → (∀ j, qualifies j → generation j < generation n ∨
      (generation j = generation n ∧ n.toNat ≤ j.toNat)) → chooseTable m k = some (tableAt m n k) := by
  intro qualifies generation
  have choice : chooseTable m k = bestOf m k tableSectors := rfl
  have listed {n : BitVec 3} (mem : n ∈ tableSectors) (good : Qualifies m k n) : qualifies n :=
    ⟨((mem_tableSectors n).1 mem).1, ((mem_tableSectors n).1 mem).2, good⟩
  refine ⟨fun bad => ?_, fun n good best => ?_⟩
  · rw [choice]
    cases found : bestOf m k tableSectors with
    | none => rfl
    | some t =>
      obtain ⟨n, mem, good, -⟩ := exists_of_bestOf found
      exact absurd (listed mem good) (bad n)
  · obtain ⟨zero, seven, good⟩ := good
    rw [choice]
    exact bestOf_eq ((mem_tableSectors n).2 ⟨zero, seven⟩) good (by decide) fun j mem goodJ => best j (listed mem goodJ)

/-! ### The working description (R53, R54) -/

/-- The breakpoints kept are the stored ones up to the first whose count does not rise. -/
theorem risingFrom_spec (first : Breakpoint) (bs : List Breakpoint) :
    let kept := first :: risingFrom first.count bs
    kept <+: first :: bs ∧ kept.Pairwise (fun x y => x.count < y.count) ∧
      ∀ x y, kept.getLast? = some x → (first :: bs)[kept.length]? = some y → y.count ≤ x.count := by
  induction bs generalizing first with
  | nil => simp [risingFrom]
  | cons b bs ih =>
    obtain ⟨prefix_, rise, stop⟩ := ih b
    by_cases rises : first.count < b.count
    · have kept : risingFrom first.count (b :: bs) = b :: risingFrom b.count bs := if_pos rises
      rw [kept]
      refine ⟨List.prefix_cons_inj first |>.2 prefix_, ?_, fun x y last next => ?_⟩
      · refine List.pairwise_cons.2 ⟨fun y mem => ?_, rise⟩
        rcases List.mem_cons.1 mem with rfl | mem
        · exact rises
        · exact rises.trans ((List.pairwise_cons.1 rise).1 y mem)
      · exact stop x y (by simpa using last) (by simpa using next)
    · have kept : risingFrom first.count (b :: bs) = [] := if_neg rises
      rw [kept]
      refine ⟨by simp, by simp, fun x y last next => ?_⟩
      have last : first = x := by simpa using last
      have next : b = y := by simpa using next
      rw [← last, ← next]
      omega

/-- The breakpoints stored in a map's place. -/
def storedPoints (m : List Host.Cell) (a : Nat) : List Breakpoint :=
  (List.range (max 2 (min 33 (flashRead m a).toNat))).map fun i =>
    ⟨flash16 m (a + 1 + 4 * i), flash16 m (a + 3 + 4 * i)⟩

theorem storedPoints_eq (m : List Host.Cell) (a : Nat) : storedPoints m a = (mapAt m a).first ::
    (List.range (clampNat 2 33 (flashRead m a).toNat - 1)).map fun i => breakpointAt m (a + 5 + 4 * i) := by
  have count : max 2 (min 33 (flashRead m a).toNat) = (clampNat 2 33 (flashRead m a).toNat - 1) + 1 := by
    rw [clampNat_eq (by omega)]
    omega
  rw [storedPoints, count, List.range_succ_eq_map, List.map_cons, List.map_map]
  refine congrArg₂ List.cons rfl (List.map_congr_left fun i _ => ?_)
  have first : a + 1 + 4 * (i + 1) = a + 5 + 4 * i := by omega
  have second : a + 3 + 4 * (i + 1) = a + 5 + 4 * i + 2 := by omega
  simp only [Function.comp, Nat.succ_eq_add_one, first, second, breakpointAt]

theorem mapAt_spec (m : List Host.Cell) (a : Nat) :
    let kept := (mapAt m a).first :: (mapAt m a).rest
    kept <+: storedPoints m a ∧ kept.Pairwise (fun x y => x.count < y.count) ∧
      ∀ x y, kept.getLast? = some x → (storedPoints m a)[kept.length]? = some y → y.count ≤ x.count := by
  rw [storedPoints_eq]
  exact risingFrom_spec (mapAt m a).first _

theorem textOf_eq (bs : List Byte) : textOf bs = bs.takeWhile fun b => b != 0 := by
  induction bs with
  | nil => rfl
  | cons b bs ih =>
    rw [textOf, List.takeWhile_cons, ih]
    by_cases zero : b = 0 <;> simp [zero]

theorem description_spec (m : List Host.Cell) :
    let d := descriptionAt m
    (sector0Passes m = true ↔ crc16 (flashBytes m 2 433) = BitVec.ofNat 16 (flash16 m 0)) ∧
    scanVerdicts m = (if sector0Passes m then .valid else .crcFail) ::
      ([1, 2, 3, 4, 5, 6] : List (BitVec 3)).map (sectorVerdict m) ∧
    d.model = (flashBytes m 2 24).takeWhile (fun b => b != 0) ∧ d.serial = flash32 m 26 ∧
    d.defaultAnchor = min 20000 (flash16 m 429) ∧ d.primeFocal = max 1 (min 65534 (flash16 m 431)) ∧
    d.assumedIris = min 200 (flash16 m 433) ∧
    ∀ a : Axis,
      let base := match a with | .focus => 30 | .zoom => 163 | .iris => 296
      let kept := (d.maps.get a).first :: (d.maps.get a).rest
      kept <+: storedPoints m base ∧ kept.Pairwise (fun x y => x.count < y.count) ∧
      ∀ x y, kept.getLast? = some x → (storedPoints m base)[kept.length]? = some y → y.count ≤ x.count := by
  refine ⟨beq_iff_eq, rfl, textOf_eq _, rfl, ?_, ?_, ?_, fun a => ?_⟩
  · show clampNat 0 20000 _ = _
    rw [clampNat_eq (by omega)]
    omega
  · show clampNat 1 65534 _ = _
    rw [clampNat_eq (by omega)]
    omega
  · show clampNat 0 200 _ = _
    rw [clampNat_eq (by omega)]
    omega
  · cases a
    · exact mapAt_spec m 30
    · exact mapAt_spec m 163
    · exact mapAt_spec m 296

end Sys2Proof.Machine
end

section
/-! PROOF. The results of a scan (R58 to R62, R93) and the two ends of TABLE_SCAN_END (R75, R193, R194). -/

namespace Sys2Proof.Machine

/-! ### The cache after a kind's table has changed (R62, R93) -/

/-- The cache with nothing of a kind but the reads in progress (R93). -/
def cleared (kind : TableKind) (c : Cache) : Cache :=
  { c with
    sets := c.sets.map fun ways => ways.map (Way.without kind)
    demand := c.demand.filter fun e => decide (e.key.kind ≠ kind) || e.beingRead
    prefetch := c.prefetch.filter fun e => decide (e.key.kind ≠ kind) || e.beingRead
    walk := abandonWalking c.walk }

theorem cache_invalidateKind (kind : TableKind) (s : State) : (invalidateKind kind s).cache = cleared kind s.cache := by
  simp only [invalidateKind]
  split <;> rfl

theorem setOf_map (f : List Way → List Way) (none : f [] = []) (k : Key) (sets : List (List Way)) :
    setOf k (sets.map f) = f (setOf k sets) := by
  unfold setOf
  rw [List.getD_eq_getElem?_getD, List.getD_eq_getElem?_getD, List.getElem?_map]
  cases sets[setIndex k]? with
  | none => exact none.symm
  | some ways => rfl

theorem without_of_holds {k : Key} {w : Way} (holds : w.holds k = true) :
    w.without k.kind = { w with content := none } := by
  unfold Way.holds at holds
  unfold Way.without
  split at holds
  case h_1 c content =>
    have key : c.key = k := by simpa using holds
    simp [key]
  case h_2 => cases holds

theorem holds_without (k : Key) (w : Way) : (w.without k.kind).holds k = false := by
  cases holds : w.holds k with
  | true => rw [without_of_holds holds]; rfl
  | false =>
    unfold Way.without
    split
    · split
      · rfl
      · exact holds
    · exact holds

theorem holds_without_other {k : Key} {kind : TableKind} (other : k.kind ≠ kind) (w : Way) :
    (w.without kind).holds k = w.holds k := by
  unfold Way.without
  split
  case h_1 c content =>
    split
    case isTrue same =>
      have key : c.key ≠ k := fun key => other (key ▸ same)
      simp [Way.holds, content, key]
    case isFalse => rfl
  case h_2 => rfl

theorem isCached_cleared (k : Key) (c : Cache) : isCached k (cleared k.kind c) = false := by
  have none : (fun ways : List Way => ways.map (Way.without k.kind)) [] = [] := rfl
  rw [isCached, cleared, setOf_map _ none]
  simp [holds_without]

theorem isCached_cleared_of_not {k : Key} {c : Cache} (kind : TableKind) (absent : isCached k c = false) :
    isCached k (cleared kind c) = false := by
  by_cases same : k.kind = kind
  · rw [← same]
    exact isCached_cleared k c
  · have none : (fun ways : List Way => ways.map (Way.without kind)) [] = [] := rfl
    rw [isCached] at absent
    rw [isCached, cleared, setOf_map _ none]
    simpa [holds_without_other same] using absent

theorem cachedCell_cleared_other {k : Key} {kind : TableKind} (other : k.kind ≠ kind) (c : Cache) :
    cachedCell k (cleared kind c) = cachedCell k c := by
  have none : (fun ways : List Way => ways.map (Way.without kind)) [] = [] := rfl
  rw [cachedCell_eq, cachedCell_eq, cleared, setOf_map _ none]
  generalize setOf k c.sets = ways
  induction ways with
  | nil => rfl
  | cons w ws ih =>
    unfold cellOf at ih ⊢
    rw [List.map_cons, List.find?_cons, List.find?_cons, holds_without_other other]
    cases holds : w.holds k with
    | false => exact ih
    | true =>
      have kept : w.without kind = w := by
        unfold Way.without
        split
        case h_1 c content =>
          have key : c.key = k := by simpa [Way.holds, content] using holds
          rw [if_neg (key ▸ other)]
        case h_2 => rfl
      rw [kept]

theorem walk_cleared (kind : TableKind) (c : Cache) : (cleared kind c).walk.state ≠ .walking := by
  show (abandonWalking c.walk).state ≠ .walking
  unfold abandonWalking
  split
  · nofun
  · assumption

theorem beingRead_cleared {kind : TableKind} {c : Cache} {e : FillEntry}
    (mem : e ∈ (cleared kind c).demand ++ (cleared kind c).prefetch) (same : e.key.kind = kind) :
    e.beingRead = true := by
  have kept : e ∈ c.demand ∧ e.beingRead = true ∨ e ∈ c.prefetch ∧ e.beingRead = true := by
    simpa [cleared, same] using mem
  rcases kept with ⟨-, reading⟩ | ⟨-, reading⟩ <;> exact reading

theorem mem_of_mem_cleared {kind : TableKind} {c : Cache} {e : FillEntry}
    (mem : e ∈ (cleared kind c).demand ++ (cleared kind c).prefetch) : e ∈ c.demand ++ c.prefetch := by
  rcases List.mem_append.1 mem with mem | mem
  · exact List.mem_append_left _ (List.mem_of_mem_filter mem)
  · exact List.mem_append_right _ (List.mem_of_mem_filter mem)

/-! ### The results of a scan (R58, R59, R62) -/

theorem choiceChanged_eq (a b : Option ActiveTable) : choiceChanged a b = decide (tableTag a ≠ tableTag b) := by
  cases a <;> cases b <;> simp [choiceChanged, tableTag]

/-- The cache as a scan that finds a table leaves it, for a kind whose table was another. -/
def rescanned (kind : TableKind) (before after : Option ActiveTable) (c : Cache) : Cache :=
  if tableTag before ≠ tableTag after then cleared kind c else c

theorem scanKind_spec (kind : TableKind) (s : State) : (∃ port, (scanKind kind s).store =
      { s.store.setActive kind (chooseTable s.store.flash kind) with port := port }) ∧
    (scanKind kind s).cache = rescanned kind (s.active kind) (chooseTable s.store.flash kind) s.cache := by
  simp only [scanKind, choiceChanged_eq, decide_eq_true_eq, rescanned]
  split
  · obtain ⟨port, store⟩ := store_invalidateKind kind
      (s.setStore (s.store.setActive kind (chooseTable s.store.flash kind)))
    exact ⟨⟨port, store⟩, cache_invalidateKind kind _⟩
  · exact ⟨⟨_, rfl⟩, rfl⟩

/-! What sector 0 gives of the store and of the front end. -/

theorem scanSector0_of_valid {s : State} (valid : sector0Passes s.store.flash = true) : scanSector0 s =
    (s.setStore { s.store with sector0Valid := true, description := some (descriptionAt s.store.flash) }).setFront
      { s.front with mapCopy := some ⟨(descriptionAt s.store.flash).maps, (descriptionAt s.store.flash).primeFocal,
        (descriptionAt s.store.flash).assumedIris⟩ } := if_pos valid

theorem scanSector0_of_invalid {s : State} (invalid : sector0Passes s.store.flash = false) : scanSector0 s =
    (s.setStore { s.store with sector0Valid := false, description := none }).setFront (discardMaps s.front) :=
  if_neg (by simp [invalid])

theorem store_scanSector0 (s : State) :
    (scanSector0 s).store = { s.store with
      sector0Valid := sector0Passes s.store.flash
      description := if sector0Passes s.store.flash then some (descriptionAt s.store.flash) else none } := by
  cases passes : sector0Passes s.store.flash with
  | true =>
    rw [scanSector0_of_valid passes, if_pos rfl]
    rfl
  | false =>
    rw [scanSector0_of_invalid passes]
    rfl

theorem mapCopy_scanSector0 (s : State) : (scanSector0 s).front.mapCopy = (if sector0Passes s.store.flash
      then some ⟨(descriptionAt s.store.flash).maps, (descriptionAt s.store.flash).primeFocal,
        (descriptionAt s.store.flash).assumedIris⟩ else none) := by
  cases passes : sector0Passes s.store.flash with
  | true =>
    rw [scanSector0_of_valid passes, if_pos rfl]
    rfl
  | false =>
    rw [scanSector0_of_invalid passes]
    rfl

/-- The state whose store has the verdicts and headers of its flash. -/
def headersRead (s : State) : State :=
  s.setStore { s.store with
    verdicts := scanVerdicts s.store.flash
    headers := tableSectors.map fun n => some (headerAt s.store.flash n) }

theorem store_headersRead (s : State) : (headersRead s).store = { s.store with
    verdicts := scanVerdicts s.store.flash
    headers := tableSectors.map fun n => some (headerAt s.store.flash n) } := rfl

/-- A state that a scan's results make of another. -/
structure Scanned (s r : State) : Prop where
  now : r.now = s.now
  seq : r.seq = s.seq
  auth : r.auth = s.auth
  engine : r.engine = s.engine
  links : r.links = s.links
  events : r.events = s.events
  store : ∃ port, r.store = { s.store with
    verdicts := scanVerdicts s.store.flash
    headers := tableSectors.map fun n => some (headerAt s.store.flash n)
    sector0Valid := sector0Passes s.store.flash
    description := if sector0Passes s.store.flash then some (descriptionAt s.store.flash) else none
    breathing := chooseTable s.store.flash .breathing
    shading := chooseTable s.store.flash .shading
    port := port }
  mapCopy : r.front.mapCopy = (if sector0Passes s.store.flash
    then some ⟨(descriptionAt s.store.flash).maps, (descriptionAt s.store.flash).primeFocal,
      (descriptionAt s.store.flash).assumedIris⟩ else none)
  cache : r.cache = rescanned .shading s.store.shading (chooseTable s.store.flash .shading)
    (rescanned .breathing s.store.breathing (chooseTable s.store.flash .breathing) s.cache)

theorem now_of_timing {s u : State} (timing : u.timing = s.timing) : u.now = s.now := by rw [State.now, timing]; rfl

/-- A scan's results make what R58 to R62 say of the state they find. -/
theorem scanned_scanResults (s : State) : Scanned s (scanResults s) := by
  have store := store_scanSector0 (headersRead s)
  have copy := mapCopy_scanSector0 (headersRead s)
  have cache : (scanSector0 (headersRead s)).cache = s.cache := by simp [headersRead]
  rw [store_headersRead] at store copy
  obtain ⟨⟨port, store1⟩, cache1⟩ := scanKind_spec .breathing (scanSector0 (headersRead s))
  obtain ⟨⟨port2, store2⟩, cache2⟩ := scanKind_spec .shading (scanKind .breathing (scanSector0 (headersRead s)))
  have results : scanResults s = scanKind .shading (scanKind .breathing (scanSector0 (headersRead s))) := rfl
  refine ⟨now_of_timing (by simp), by simp, by simp, by simp, by simp, by simp, ⟨port2, ?_⟩, ?_, ?_⟩
  · rw [results, store2, store1, store]
    simp only [Store.setActive]
  · rw [results]
    simpa only [scanKind_frame] using copy
  · rw [results, cache2, cache1, cache, State.active, State.active, store1, store]
    simp only [Store.setActive]

end Sys2Proof.Machine
end

section
/-! PROOF. The two ends of TABLE_SCAN_END (R59, R75, R193, R194). -/

namespace Sys2Proof.Machine

/-! ### The results stand (R58 to R62, R93) -/

/-- What a scan leaves of the store. -/
def Store.scanned (x : Store) := (x.flash, x.verdicts, x.headers, x.breathing, x.shading, x.sector0Valid, x.description)

theorem isCached_rescanned {k : Key} {c : Cache} (absent : isCached k c = false) (kind : TableKind)
    (b a : Option ActiveTable) : isCached k (rescanned kind b a c) = false := by
  unfold rescanned
  split
  · exact isCached_cleared_of_not kind absent
  · exact absent

theorem mem_rescanned {kind : TableKind} {b a : Option ActiveTable} {c : Cache} {e : FillEntry}
    (mem : e ∈ (rescanned kind b a c).demand ++ (rescanned kind b a c).prefetch) : e ∈ c.demand ++ c.prefetch := by
  unfold rescanned at mem
  split at mem
  · exact mem_of_mem_cleared mem
  · exact mem

theorem walk_rescanned {c : Cache} (still : c.walk.state ≠ .walking) (kind : TableKind) (b a : Option ActiveTable) :
    (rescanned kind b a c).walk.state ≠ .walking := by
  unfold rescanned
  split
  · exact walk_cleared kind c
  · exact still

theorem cachedCell_rescanned_other {k : Key} {kind : TableKind} (other : k.kind ≠ kind) (b a : Option ActiveTable)
    (c : Cache) : cachedCell k (rescanned kind b a c) = cachedCell k c := by
  unfold rescanned
  split
  · exact cachedCell_cleared_other other c
  · rfl

/-- The cache follows a scan for the kind whose change it took last. -/
theorem cacheFollowsScan_last {kind : TableKind} {s t : State} {c : Cache} {b : Option ActiveTable}
    (active : s.active kind = b) (cells : ∀ k : Key, k.kind = kind → cachedCell k c = cachedCell k s.cache)
    (cache : t.cache = rescanned kind b (chooseTable s.store.flash kind) c) : CacheFollowsScan kind s t := by
  rw [CacheFollowsScan, active, cache]
  refine ⟨fun changed => ?_, fun same k here => ?_⟩
  · rw [rescanned, if_pos changed]
    refine ⟨fun k here => ?_, fun e mem here => beingRead_cleared mem here, walk_cleared kind c⟩
    rw [← here]
    exact isCached_cleared k c
  · rw [rescanned, if_neg (not_not.2 same)]
    exact cells k here

/-- The cache follows a scan for the kind whose change it took first. -/
theorem cacheFollowsScan_first {kind other : TableKind} {s t : State} {b b' a' : Option ActiveTable}
    (apart : kind ≠ other) (active : s.active kind = b)
    (cache : t.cache = rescanned other b' a' (rescanned kind b (chooseTable s.store.flash kind) s.cache)) :
    CacheFollowsScan kind s t := by
  rw [CacheFollowsScan, active, cache]
  refine ⟨fun changed => ?_, fun same k here => ?_⟩
  · rw [show rescanned kind b (chooseTable s.store.flash kind) s.cache = cleared kind s.cache from if_pos changed]
    refine ⟨fun k here => ?_, fun e mem here => beingRead_cleared (mem_rescanned mem) here,
      walk_rescanned (walk_cleared kind s.cache) _ _ _⟩
    refine isCached_rescanned ?_ _ _ _
    rw [← here]
    exact isCached_cleared k s.cache
  · rw [cachedCell_rescanned_other (here ▸ apart), rescanned, if_neg (not_not.2 same)]

theorem scanStands_of_scanned {s r t : State} (scan : Scanned s r) (kept : t.store.scanned = r.store.scanned)
    (copy : t.front.mapCopy = r.front.mapCopy) (held : t.cache = r.cache) : ScanStands s t := by
  obtain ⟨port, store⟩ := scan.store
  rw [store] at kept
  simp only [Store.scanned, Prod.mk.injEq] at kept
  obtain ⟨flash, verdicts, headers, breathing, shading, valid, description⟩ := kept
  have held := held.trans scan.cache
  refine ⟨flash, verdicts, headers, breathing, shading, valid, description, copy.trans scan.mapCopy,
    cacheFollowsScan_first (by decide) rfl held, cacheFollowsScan_last rfl (fun k here => ?_) held,
    fun same same' => ?_⟩
  · exact cachedCell_rescanned_other (here ▸ by decide) _ _ _
  · rw [held, rescanned, if_neg (not_not.2 same'), rescanned, if_neg (not_not.2 same)]

/-- What a scan leaves is a matter of the store and the cache it finds. -/
theorem scanStands_congr {s a t : State} (store : a.store = s.store) (cache : a.cache = s.cache)
    (stands : ScanStands a t) : ScanStands s t := by
  unfold ScanStands CacheFollowsScan State.active at stands ⊢
  rw [store, cache] at stands
  exact stands

/-! ### RESCAN TABLES ends (R75) -/

theorem exec_rescanEnds {n : Option (BitVec 3)} {p : Option (BitVec 8)} {since : Instant} {s : State}
    (finished : s.seq.phase = .finished) (op : s.store.op = some ⟨.rescanTables, n, p, some since⟩) :
    exec .tableScanEnd s = answer (completeOp ⟨.rescanTables, n, p, some since⟩ .done
      (scanResults (advanceTo (addInterval since 21000) s))) := by
  show execTableScanEnd s = _
  simp only [execTableScanEnd, finished, op]

/-! ### The scan of a start ends (R193, R194) -/

theorem exec_startScanEnds {reinit : Bool} {since : Instant} {s : State} (phase : s.seq.phase = .scan reinit since) :
    exec .tableScanEnd s = answer (endStartup (if reinit then scanResults (advanceTo (addInterval since 21000) s)
      else failBits (scanFailBits (scanResults (advanceTo (addInterval since 21000) s)))
        (scanResults (advanceTo (addInterval since 21000) s)))) := by
  show execTableScanEnd s = _
  simp only [execTableScanEnd, phase]

/-- A link at its reset values but for an ABILITY that waits sends it (R150). -/
theorem sending_startTransmit_of_waits {l : Link} {s : State} {due : Option Instant} (runs : s.seq.reinit ≠ .due)
    (waits : s.link l = { LinkUnit.reset with abilityWaiting := true, sendDue := due }) :
    ∃ p, ((startTransmit l s).link l).sending = some (⟨0x01, p⟩, s.now) := by
  have sent := link_startTransmit_ability (l := l) (s := s) (by rw [waits]; rfl) (by rw [waits]; rfl) runs
    (by rw [waits]; rfl) (by rw [waits]; rfl) (by rw [waits])
  exact ⟨_, congrArg LinkUnit.sending sent⟩

theorem sending_abilitySend_of_reset {l : Link} {s : State} (reset : s.link l = .reset) (runs : s.seq.reinit ≠ .due)
    (next : Instant) : ∃ p, ((abilitySend l next s).link l).sending = some (⟨0x01, p⟩, s.now) := by
  have waits : (s.setLink l { s.link l with abilityWaiting := true, sendDue := some next }).link l =
      { LinkUnit.reset with abilityWaiting := true, sendDue := some next } := by rw [link_setLink_same, reset]
  exact sending_startTransmit_of_waits (s := s.setLink l _) runs waits

/-- The end of start-up before the links begin to send. -/
def opened (s : State) : State := (reevaluate (anchored s)).setFront { s.front with nextSampling := some s.now }

@[simp] theorem now_abilitySend (l : Link) (t : Instant) (s : State) : (abilitySend l t s).now = s.now := by
  simp [State.now]

@[simp] theorem now_opened (s : State) : (opened s).now = s.now := now_reevaluate (anchored s)

@[simp] theorem link_opened (l : Link) (s : State) : (opened s).link l = s.link l :=
  link_of_links (by simp [opened, anchored]) l

@[simp] theorem seq_opened (s : State) : (opened s).seq = { s.seq with phase := .finished } := by
  simp [opened, anchored]

theorem endStartup_eq (s : State) : endStartup s =
    abilitySend .accessory (addInterval s.now 10000) (abilitySend .body (addInterval s.now 10000) (opened s)) := by
  rw [← now_opened s]
  rfl

theorem seq_endStartup (s : State) : (endStartup s).seq = { s.seq with phase := .finished } := by
  simp [endStartup_eq]

theorem front_endStartup (s : State) : (endStartup s).front = { s.front with nextSampling := some s.now } := by
  simp [endStartup_eq, opened]

theorem now_endStartup (s : State) : (endStartup s).now = s.now := by simp [endStartup_eq]

/-- An engine with no mode set in force stays UNCONFIGURED as start-up ends (R127). -/
theorem engine_endStartup {s : State} (reset : s.engine = .reset) : (endStartup s).engine.state = .unconfigured := by
  have engine : (anchored s).engine = .reset := reset
  have unset : configured (anchored s) = false := by simp [configured, engine, Engine.reset]
  have stays : stopIfNeeded (anchored s) = anchored s := by
    simp [stopIfNeeded, engine, Engine.reset, EngineState.runs]
  have follows : followConfiguration (anchored s) = anchored s := by
    simp [followConfiguration, engine, Engine.reset, unset]
  have waits : startIfReady (anchored s) = anchored s := by simp [startIfReady, engine, Engine.reset]
  have kept : (endStartup s).engine = (reevaluate (anchored s)).engine := by simp [endStartup_eq, opened]
  rw [kept, reevaluate, stays, follows, waits, engine]
  rfl

/-- Both links begin their 10 ms intervals as start-up ends, and one at its reset values sends its ABILITY (R150,
R194). -/
theorem links_endStartup (s : State) (l : Link) :
    ((endStartup s).link l).sendDue = some (addInterval s.now 10000) ∧
      (s.link l = .reset → s.seq.reinit ≠ .due →
        ∃ p, ((endStartup s).link l).sending = some (⟨0x01, p⟩, s.now)) := by
  rw [endStartup_eq]
  generalize addInterval s.now 10000 = next
  cases l with
  | body =>
    have other := link_abilitySend_other .accessory next (abilitySend .body next (opened s))
    rw [otherLink] at other
    rw [other]
    refine ⟨congrArg LinkUnit.sendDue (exchange_abilitySend .body next (opened s)), fun reset runs => ?_⟩
    obtain ⟨p, sending⟩ := sending_abilitySend_of_reset (l := .body) (s := opened s) (by simpa using reset)
      (by simpa using runs) next
    exact ⟨p, by simpa using sending⟩
  | accessory =>
    refine ⟨congrArg LinkUnit.sendDue (exchange_abilitySend .accessory next (abilitySend .body next (opened s))),
      fun reset runs => ?_⟩
    have other := link_abilitySend_other .body next (opened s)
    rw [otherLink] at other
    obtain ⟨p, sending⟩ := sending_abilitySend_of_reset (l := .accessory) (s := abilitySend .body next (opened s))
      (by rw [other]; simpa using reset) (by simpa using runs) next
    exact ⟨p, by simpa using sending⟩

end Sys2Proof.Machine
end

section
/-! PROOF. A scan's results take effect together (R50 to R62, R75, R193, R194). -/

namespace Sys2Proof.Machine

/-! ### The fail mask of a start's scan (R193) -/

theorem scanFailBits_eq (valid breathing shading : Bool) :
    BitVec.ofNat 8 (bitsOf [false, !valid, false, false, false, !breathing, !shading]) =
      (if valid then 0 else 2) ||| (if breathing then 0 else 32) ||| (if shading then 0 else 64) := by
  revert valid breathing shading
  decide

/-- A start's results, with the fail mask they leave (R193). -/
def judged (reinit : Bool) (r : State) : State := if reinit then r else failBits (scanFailBits r) r

/-- A start's results differ from the scan's in the fail mask alone. -/
theorem judged_spec (reinit : Bool) (r : State) : judged reinit r = r.setSeq { r.seq with
    failMask := if reinit then r.seq.failMask else r.seq.failMask ||| (if r.store.sector0Valid then 0 else 2) |||
      (if r.store.breathing.isSome then 0 else 32) ||| (if r.store.shading.isSome then 0 else 64) } := by
  cases reinit with
  | true => rfl
  | false =>
    have bits := scanFailBits_eq r.store.sector0Valid r.store.breathing.isSome r.store.shading.isSome
    have breathing : r.store.breathing.isNone = !r.store.breathing.isSome := by simp
    have shading : r.store.shading.isNone = !r.store.shading.isSome := by simp
    simp only [judged, failBits, scanFailBits, breathing, shading, bits, BitVec.or_assoc, Bool.false_eq_true, if_false]

/-! ### The end of a start's scan -/

/-- What a start's results leave as start-up ends (R193, R194). -/
theorem endStartup_judged (reinit : Bool) (r : State) :
    let t := settle (endStartup (judged reinit r))
    t.now = r.now ∧ t.seq.phase = .finished ∧ t.store = r.store ∧ t.cache = r.cache ∧
      t.front = { r.front with nextSampling := some r.now } ∧
      t.auth = { r.auth with anchor := (r.store.description.map Description.defaultAnchor).getD 0 } ∧
      t.seq.failMask = (if reinit then r.seq.failMask else
        r.seq.failMask ||| (if r.store.sector0Valid then 0 else 2) ||| (if r.store.breathing.isSome then 0 else 32) |||
          (if r.store.shading.isSome then 0 else 64)) ∧
      (r.engine = .reset → t.engine.state = .unconfigured) ∧
      ∀ l, (t.link l).sendDue = some (addInterval r.now 10000) ∧
        (r.link l = .reset → r.seq.reinit ≠ .due → ∃ p, (t.link l).sending = some (⟨0x01, p⟩, r.now)) := by
  rw [judged_spec]
  generalize (if reinit then r.seq.failMask else r.seq.failMask ||| (if r.store.sector0Valid then 0 else 2) |||
    (if r.store.breathing.isSome then 0 else 32) ||| (if r.store.shading.isSome then 0 else 64)) = mask
  simp only [now_settle, now_endStartup, settle_frame, link_settle, seq_endStartup, front_endStartup, auth_endStartup,
    endStartup_frame]
  exact ⟨rfl, trivial, rfl, rfl, rfl, rfl, rfl, fun reset => engine_endStartup reset, links_endStartup (r.setSeq _)⟩

/-- What the end of a start's scan leaves (R193, R194). -/
theorem startScan_spec (reinit : Bool) {s r : State} (scan : Scanned s r) :
    let m := s.store.flash
    let t := settle (endStartup (judged reinit r))
    t.now = s.now ∧ t.seq.phase = .finished ∧ ScanStands s t ∧
      t.auth = { s.auth with anchor := if sector0Passes m then (descriptionAt m).defaultAnchor else 0 } ∧
      t.front.nextSampling = some t.now ∧
      t.seq.failMask = (if reinit then s.seq.failMask else
        s.seq.failMask ||| (if sector0Passes m then 0 else 2) |||
          (if (chooseTable m .breathing).isSome then 0 else 32) |||
          (if (chooseTable m .shading).isSome then 0 else 64)) ∧
      (s.engine = .reset → t.engine.state = .unconfigured) ∧
      ∀ l, (t.link l).sendDue = some (addInterval t.now 10000) ∧
        (s.link l = .reset → s.seq.reinit = .idle →
          ∃ p, (t.link l).sending = some (⟨0x01, p⟩, t.now)) := by
  obtain ⟨port, store⟩ := scan.store
  obtain ⟨now, phase, storeKept, cacheKept, front, anchor, failMask, unset, links⟩ := endStartup_judged reinit r
  intro m t
  have description : r.store.description = if sector0Passes m then some (descriptionAt m) else none :=
    congrArg Store.description store
  have anchored : (r.store.description.map Description.defaultAnchor).getD 0 =
      if sector0Passes m then (descriptionAt m).defaultAnchor else 0 := by
    rw [description]
    cases sector0Passes m <;> rfl
  have valid : r.store.sector0Valid = sector0Passes m := congrArg Store.sector0Valid store
  have breathing : r.store.breathing = chooseTable m .breathing := congrArg Store.breathing store
  have shading : r.store.shading = chooseTable m .shading := congrArg Store.shading store
  have now : t.now = r.now := now
  rw [scan.seq, valid, breathing, shading] at failMask
  rw [scan.engine] at unset
  rw [anchored, scan.auth] at anchor
  rw [now]
  refine ⟨scan.now, phase, scanStands_of_scanned scan (congrArg Store.scanned storeKept)
    (congrArg FrontEnd.mapCopy front :) cacheKept,
    anchor, (congrArg FrontEnd.nextSampling front :), failMask, unset, fun l => ?_⟩
  obtain ⟨due, sending⟩ := links l
  exact ⟨due, fun reset idle => sending ((link_of_links scan.links l).trans reset) (by simp [scan.seq, idle])⟩

/-! ### The end of RESCAN TABLES -/

/-- What a completion leaves while the engine does not run (R75). -/
theorem completeOp_spec {r : State} (still : r.engine.state.runs = false) (o : StoreOp) (result : OpResult) :
    let t := settle (completeOp o result r)
    t.now = r.now ∧ t.seq = r.seq ∧ t.front = r.front ∧ t.cache = r.cache ∧ t.auth = r.auth ∧ t.links = r.links ∧
      t.store = { r.store with
        op := none
        lastCompletion := some ⟨o.name, o.sector, o.page, result⟩ } ∧
      EventsRaised (resultEvent result).mask (resultEvent result).mask r t := by
  refine ⟨by simp, ?_, ?_, ?_, ?_, ?_, ?_, (latches_completeOp still o result).settle⟩
  · simp [completeOp_eq, completed]
  · simp [completeOp_eq, completed]
  · simp [completeOp_eq, completed]
  · simp [completeOp_eq, completed]
  · simp [completeOp_eq, completed]
  · rw [← store_completeOp]
    simp

theorem eventsRaised_congr {b a : EventWord} {s u t : State} (same : u.events = s.events)
    (raised : EventsRaised b a u t) : EventsRaised b a s t := by
  unfold EventsRaised at raised ⊢
  rw [← same]
  exact raised

/-- What the end of the scan of RESCAN TABLES leaves (R75). -/
theorem rescan_spec (o : StoreOp) {s r : State} (scan : Scanned s r) (still : s.engine.state.runs = false) :
    let t := settle (completeOp o .done r)
    t.now = s.now ∧ t.seq = s.seq ∧ t.auth = s.auth ∧ t.links = s.links ∧ t.store.op = none ∧
      t.store.lastCompletion = some ⟨o.name, o.sector, o.page, .done⟩ ∧
      t.store.readProtection = s.store.readProtection ∧ ScanStands s t ∧
      EventsRaised (Event.mask .storeDone) (Event.mask .storeDone) s t := by
  obtain ⟨port, results⟩ := scan.store
  have protection : r.store.readProtection = s.store.readProtection := by rw [results]
  obtain ⟨now, seq, front, cache, auth, links, store, raised⟩ := completeOp_spec (scan.engine ▸ still) o .done
  intro t
  exact ⟨now.trans scan.now, seq.trans scan.seq, auth.trans scan.auth, links.trans scan.links,
    (congrArg Store.op store :), (congrArg Store.lastCompletion store :),
    (congrArg Store.readProtection store :).trans protection,
    scanStands_of_scanned scan (congrArg Store.scanned store :) (congrArg FrontEnd.mapCopy front) cache,
    eventsRaised_congr scan.events raised⟩

/-- Settles O21, by what a scan's results leave of the store, the map copy and the cache. -/
theorem scansTakeEffect : Obligations.ScansTakeEffect := by
  unfold Obligations.ScansTakeEffect
  refine ⟨fun reinit since s phase => ?_, fun n p since s finished still op => ?_, sectorVerdict_spec, chooseTable_spec,
    description_spec⟩
  · have ends := exec_startScanEnds phase
    generalize addInterval since 21000 = n at ends ⊢
    obtain ⟨now, phase, stands, rest⟩ := startScan_spec reinit (scanned_scanResults (advanceTo n s))
    exact ⟨_, ends, now, phase, scanStands_congr rfl rfl stands, rest⟩
  · have ends := exec_rescanEnds finished op
    generalize addInterval since 21000 = m at ends ⊢
    obtain ⟨now, seq, auth, links, idle, completion, protection, stands, raised⟩ :=
      rescan_spec ⟨.rescanTables, n, p, some since⟩ (scanned_scanResults (advanceTo m s)) still
    exact ⟨_, ends, now, seq, auth, links, idle, completion, protection, scanStands_congr rfl rfl stands, raised⟩

end Sys2Proof.Machine
end

section
/-! PROOF. The values that only their own commands change, and what each operation of the model leaves of them. -/

namespace Sys2Proof.Machine

/-! ### The values -/

/-- The values that hold but for their own commands. -/
structure Values where
  flash : List Host.Cell
  pageBuffer : List Byte
  marks : List Mark
  anchor : Nat
  format : FrameFormat
  enables : Option (EventWord × EventWord)
  disabled : Bool
  straps : Straps
  cause : ResetCause

/-- The values of a state. -/
def State.values (s : State) : Values :=
  { flash := s.store.flash, pageBuffer := s.store.pageBuffer, marks := s.auth.marks, anchor := s.auth.anchor,
    format := s.timing.format, enables := enablesOf s.events, disabled := s.cache.disabled,
    straps := s.seq.straps, cause := s.seq.cause }

theorem enableWord_of_enables {s u : State} (enables : enablesOf u.events = enablesOf s.events) (l : Link) :
    enableWord u l = enableWord s l := by
  have word (v : State) : enableWord v l =
      match enablesOf v.events with
      | none => 0
      | some w => match l with
        | .body => w.1
        | .accessory => w.2 := by
    unfold enableWord enablesOf
    cases v.events <;> cases l <;> rfl
  rw [word, word, enables]

/-- Every law of the values is robust but for the enable words. -/
theorem latching_values {α : Type} (f : Values → α) (x : α) : Latching fun u => f u.values = x where
  pending _ law := law
  free _ law := law
  time _ law := law
  links _ law := law
  words x _ same law := by
    rw [← law]
    exact congrArg (fun e => f { State.values _ with enables := e }) same
  outcome _ _ _ law := law
  reinit _ law := law
  op _ _ law := law
  waiting _ law := law
  portFreed law := law
  readsDropped law := law
  engineMoves _ _ _ _ law := law
  setsApplied law := law
  framesDiscarded law := law
  stayEnds law := law

theorem values_of_same {s u : State} (flash : u.store.flash = s.store.flash)
    (buffer : u.store.pageBuffer = s.store.pageBuffer) (marks : u.auth.marks = s.auth.marks)
    (anchor : u.auth.anchor = s.auth.anchor) (format : u.timing.format = s.timing.format)
    (enables : enablesOf u.events = enablesOf s.events) (disabled : u.cache.disabled = s.cache.disabled)
    (straps : u.seq.straps = s.seq.straps) (cause : u.seq.cause = s.seq.cause) : u.values = s.values := by
  rw [State.values, State.values, flash, buffer, marks, anchor, format, enables, disabled, straps, cause]

section
variable (s : State)

@[simp] theorem values_reevaluate : (reevaluate s).values = s.values := (latching_values id _).reevaluate rfl

@[simp] theorem values_raise (e : Event) : (raise e s).values = s.values := (latching_values id _).raise rfl e

@[simp] theorem values_raiseIf (b : Bool) (e : Event) : (raiseIf b e s).values = s.values :=
  (latching_values id _).raiseIf rfl b e

@[simp] theorem values_replyOk (l : Link) (k : Byte) (p : List Byte) : (replyOk l k p s).values = s.values :=
  (latching_values id _).replyOk rfl l k p

@[simp] theorem values_received (l : Link) (t : Instant) : (received l t s).values = s.values :=
  (latching_values id _).received rfl l t

@[simp] theorem values_completeOp (o : StoreOp) (r : OpResult) : (completeOp o r s).values = s.values :=
  (latching_values id _).completeOp rfl o r

@[simp] theorem values_startOp (l : Link) (o : StoreOpName) (n : Option (BitVec 3)) (p : Option (BitVec 8)) :
    (startOp l o n p s).values = s.values := (latching_values id _).startOp rfl l o n p

@[simp] theorem values_advanceTo (t : Instant) : (advanceTo t s).values = s.values := rfl

@[simp] theorem values_settle : (settle s).values = s.values := (latching_values id _).settle rfl

/-! ### Start-up and scans -/

@[simp] theorem values_failBits (n : Nat) : (failBits n s).values = s.values := rfl

@[simp] theorem values_setPhase (x : Phase) : (setPhase x s).values = s.values := rfl

@[simp] theorem values_afterEncoderRead (t : Instant) (tests : PerAxis EncoderTest) :
    (afterEncoderRead t tests s).values = s.values := by
  unfold afterEncoderRead
  split <;> rfl

@[simp] theorem values_invalidateKind (k : TableKind) : (invalidateKind k s).values = s.values := by
  simp only [invalidateKind]
  split <;> rfl

@[simp] theorem values_setActive (k : TableKind) (t : Option ActiveTable) :
    (s.setStore (s.store.setActive k t)).values = s.values := by
  cases k <;> rfl

@[simp] theorem values_withdrawKind (k : TableKind) (n : BitVec 3) : (withdrawKind k n s).values = s.values := by
  unfold withdrawKind
  split
  · split
    · rw [values_invalidateKind, values_setActive]
    · rfl
  · rfl

@[simp] theorem values_beginOnSector (n : BitVec 3) : (beginOnSector n s).values = s.values := by
  have withdrawn : (withdrawKind .shading n (withdrawKind .breathing n (s.setStore { s.store with
      verdicts := s.store.verdicts.set n.toNat .unscanned }))).values = s.values := by
    rw [values_withdrawKind, values_withdrawKind]
    rfl
  simp only [beginOnSector]
  split
  · rw [withdrawSector0, values_reevaluate]
    exact withdrawn
  · exact withdrawn

@[simp] theorem values_scanKind (k : TableKind) : (scanKind k s).values = s.values := by
  simp only [scanKind]
  split
  · rw [values_invalidateKind, values_setActive]
  · exact values_setActive _ _ _

@[simp] theorem values_scanResults : (scanResults s).values = s.values := by
  unfold scanResults scanSector0
  rw [values_scanKind, values_scanKind]
  dsimp only
  split <;> rfl

/-! ### The encoder front end and the stream -/

@[simp] theorem values_noteConversion (a : Axis) (outside : Bool) : (noteConversion a outside s).values = s.values := by
  rw [noteConversion, values_raiseIf]
  rfl

@[simp] theorem values_applySample (a : Axis) (x : Sample) : (applySample a x s).values = s.values := by
  unfold applySample
  dsimp only
  split
  · split
    · rfl
    · rw [values_noteConversion]
      rfl
  · rfl

@[simp] theorem values_countStaged : (countStaged s).values = s.values := by
  simp only [countStaged]
  split
  · exact (latching_values id _).followSelection (values_raiseIf _ _ _)
  · exact values_raiseIf _ _ _

@[simp] theorem values_decideSync : (decideSync s).values = s.values := by
  unfold decideSync
  split
  · split <;> rfl
  · rfl

@[simp] theorem values_afterSync : (afterSync s).values = s.values := by
  rw [afterSync, values_reevaluate, values_decideSync, values_countStaged]

@[simp] theorem values_applyEdge : (applyEdge s).values = s.values := by
  unfold applyEdge
  split
  · rfl
  · rw [values_afterSync, beginAcquisition, values_raise]
    exact (latching_values id _).stopIfNeeded rfl
  · rw [values_afterSync]
    rfl

@[simp] theorem values_loseStream : (loseStream s).values = s.values := by
  rw [loseStream, values_reevaluate, values_raise]
  rfl

/-! ### Computations and records -/

@[simp] theorem values_notePredictions (m : MS0) (t : Instant) (cp : MapCopy) :
    (notePredictions m t cp s).values = s.values := by
  have noted (a : Axis) (p : Option AxisPrediction) (u : State) : (notePrediction a cp p u).values = u.values := by
    unfold notePrediction
    split
    · rfl
    · rw [values_noteConversion]
      rfl
  unfold notePredictions
  exact (noted _ _ _).trans ((noted _ _ _).trans (noted _ _ _))

@[simp] theorem values_setProgress (p : Progress) : (setProgress p s).values = s.values := rfl

@[simp] theorem values_onComputing (f : Entry → Computation → Engine → Entry × Engine) :
    (onComputing f s).values = s.values := rfl

@[simp] theorem values_computePattern (e : Entry) (x : Inputs) : (computePattern e x s).values = s.values := by
  unfold computePattern
  exact values_notePredictions s _ _ _

@[simp] theorem values_handOver (e : Entry) (d : Delivered) (rest : List Entry) :
    (handOver e d rest s).values = s.values := (latching_values id _).handOver e d rfl

/-! ### The cache and the path -/

@[simp] theorem values_walkAdvance : (walkAdvance s).values = s.values := by
  simp only [walkAdvance]
  split
  · rfl
  · rw [values_raiseIf]
    rfl

@[simp] theorem values_markChanged (id : Nat) : (markChanged id s).2.values = s.values := by
  rcases markChanged_snd id s with same | released
  · rw [same]
  · rw [released]
    rfl

@[simp] theorem values_lockPath (l : Link) (start stop : Nat) : (lockPath l start stop s).values = s.values := by
  unfold lockPath
  rw [values_walkAdvance, values_replyOk]
  rfl

@[simp] theorem values_unlockPath (l : Link) : (unlockPath l s).values = s.values := by
  unfold unlockPath
  rw [values_replyOk]
  rfl

@[simp] theorem values_startSource (x : PortSource) : (startSource x s).values = s.values := by
  unfold startSource
  cases x with
  | readStore => rfl
  | demand | walk | prefetch =>
    dsimp only
    split <;> rfl

@[simp] theorem values_beginWork (o : StoreOp) : (beginWork o s).values = s.values := by
  simp only [beginWork]
  split
  · rw [values_beginOnSector]
    rfl
  · rfl

/-! A computation's lookups and requests, and a fill, leave the cache's disabled mark. -/

theorem disabled_demandRequest (k : Key) (generation : Nat) (c : Cache) :
    (demandRequest k generation c).1.disabled = c.disabled := by
  unfold demandRequest
  repeat' split
  all_goals rfl

theorem disabled_lookup (generation : Nat) (r : Lookups) (k : Key) :
    (lookup generation r k).cache.disabled = r.cache.disabled := by
  unfold lookup touchKey
  split
  · dsimp only
    split <;> rfl
  · exact disabled_demandRequest k generation r.cache

theorem disabled_lookupAll (generation : Nat) (keys : List Key) (c : Cache) :
    (lookupAll generation keys c).cache.disabled = c.disabled := by
  have from_ (r : Lookups) : (keys.foldl (lookup generation) r).cache.disabled = r.cache.disabled := by
    induction keys generalizing r with
    | nil => rfl
    | cons k ks ih => rw [List.foldl_cons, ih, disabled_lookup]
  exact from_ _

theorem disabled_prefetchKind (k : TableKind) (d : Direction) (p : Position) (t : Option ActiveTable) (c : Cache) :
    (prefetchKind k d p t c).disabled = c.disabled := by
  unfold prefetchKind
  cases t with
  | none => rfl
  | some t =>
    dsimp only
    generalize prefetchKeys k d p.power p.focal p.iris t = keys
    have one (k : Key) (c : Cache) : (prefetchRequest k t.generation c).disabled = c.disabled := by
      unfold prefetchRequest
      repeat' split
      all_goals rfl
    induction keys generalizing c with
    | nil => rfl
    | cons k ks ih => rw [List.foldl_cons, ih, one]

theorem disabled_prefetchAll (m : MS0) (level : Nat) (d : Direction) (p : Position) (x : Store) (c : Cache) :
    (prefetchAll m level d p x c).disabled = c.disabled := by
  unfold prefetchAll
  repeat' split
  all_goals simp only [disabled_prefetchKind]

theorem disabled_openComputation (x : Inputs) (p : FramePrediction) : (openComputation x p s).1.disabled =
    s.cache.disabled := by
  have breathing (level power focal anchor : Nat) (t : Option ActiveTable) (c : Cache) :
      (startBreathing level power focal anchor t c).1.disabled = c.disabled := by
    unfold startBreathing
    repeat' split
    · rfl
    · rfl
    · exact disabled_lookupAll _ _ _
  have shading (level power focal iris : Nat) (t : Option ActiveTable) (c : Cache) :
      (startShading level power focal iris t c).1.disabled = c.disabled := by
    unfold startShading
    repeat' split
    · rfl
    · rfl
    · exact disabled_lookupAll _ _ _
  exact (disabled_prefetchAll _ _ _ _ _ _).trans ((shading _ _ _ _ _ _).trans (breathing _ _ _ _ _ _))

@[simp] theorem values_setCache {c : Cache} (disabled : c.disabled = s.cache.disabled) :
    (s.setCache c).values = s.values := values_of_same rfl rfl rfl rfl rfl rfl disabled rfl rfl

@[simp] theorem values_computeFrame (e : Entry) (x : Inputs) : (computeFrame e x s).values = s.values := by
  have begun : ((notePredictions x.ms0 e.target x.copy s).setCache (openComputation x
      (predictFrame x.ms0 e.target x.copy s) (notePredictions x.ms0 e.target x.copy s)).1).values = s.values :=
    (values_setCache _ (disabled_openComputation _ _ _)).trans (values_notePredictions s _ _ _)
  simp only [computeFrame]
  split
  · exact begun
  · exact begun

theorem disabled_placeCell (k : Key) (cell : Cell) (c : Cache) : (placeCell k cell c).disabled = c.disabled := by
  unfold placeCell
  split <;> rfl

@[simp] theorem values_finishFill (k : Key) (cell : Cell) : (finishFill k cell s).values = s.values := by
  simp only [finishFill]
  split
  · exact values_setCache s (disabled_placeCell _ _ _)
  · rfl

@[simp] theorem values_finishWalkRead (k : Key) (cell : Cell) (generation : Nat) (dropped : Bool) :
    (finishWalkRead k cell generation dropped s).values = s.values := by
  simp only [finishWalkRead]
  split
  · rfl
  · rw [values_walkAdvance]
    refine values_setCache s ?_
    dsimp only
    split
    · exact disabled_placeCell _ _ _
    · rfl

@[simp] theorem values_endRead (t : Instant) (n : Nat) : (endRead t n s).values = s.values :=
  (latching_values id _).endRead rfl t n

@[simp] theorem values_writeMode (l : Link) (p : List Byte) : (writeMode l p s).values = s.values :=
  (latching_values id _).writeMode l rfl

end

end Sys2Proof.Machine
end

section
/-! PROOF. Each command changes no more of the values than its own. -/

namespace Sys2Proof.Machine

/-! ### What a command may change -/

/-- The values without those that a request of a kind may change. -/
def Values.butOfKind (kind : Nat) (v : Values) : Values :=
  match kind with
  | 0x15 => { v with enables := none }
  | 0x20 | 0x21 => { v with format := (Timing.reset 0).format }
  | 0x30 | 0x31 => { v with anchor := 0 }
  | 0x32 | 0x33 => { v with marks := [] }
  | 0x40 => { v with pageBuffer := [] }
  | _ => v

/-- The values without those that a request of any kind may change. -/
def Values.butOfRequests (v : Values) : Values :=
  { v with enables := none, format := (Timing.reset 0).format, anchor := 0, marks := [], pageBuffer := [] }

/-- The values without those that a command may change. -/
def Values.butOf (c : Instr) (v : Values) : Values :=
  match c with
  | .powerOn | .pinReset => State.reset.values
  | .leaveReset _ | .reinitializeRestart => { State.reset.values with flash := v.flash }
  | .cacheRamCheckDone _ => { v with disabled := false }
  | .tableScanEnd => { v with anchor := 0 }
  | .eraseComplete | .setReadProtectionComplete | .clearProtectionSectorErased => { v with flash := [] }
  | .programComplete => { v with flash := [], pageBuffer := [] }
  | .setEventEnables _ _ _ => v.butOfKind 0x15
  | .frameFormat _ _ _ => v.butOfKind 0x20
  | .frameInfo _ _ _ => v.butOfKind 0x21
  | .setAnchor _ _ _ => v.butOfKind 0x30
  | .anchorHere _ _ _ => v.butOfKind 0x31
  | .setMark _ _ _ => v.butOfKind 0x32
  | .deleteMark _ _ _ => v.butOfKind 0x33
  | .loadPageBuffer _ _ _ => v.butOfKind 0x40
  | .unknownKindRequest _ _ _ _ | .byteReceived _ _ _ => v.butOfRequests
  | _ => v

theorem butOfRequests_butOfKind (kind : Nat) (v : Values) : (v.butOfKind kind).butOfRequests = v.butOfRequests := by
  unfold Values.butOfKind
  split <;> rfl

/-! ### Requests -/

/-- A request keeps what its act keeps. -/
theorem values_takeRequest {α : Type} {f : Values → α} {act : State → State}
    (same : ∀ u, f (act u).values = f u.values) (l : Link) (t : Instant) (kind : Byte) (checks : State → Checks)
    (s : State) : f (takeRequest l t kind checks act s).values = f s.values := by
  have r := latching_values f (f s.values)
  rcases takeRequest_cases l t kind checks act s with held | ends | discarded | full | ⟨c, refused⟩ | acts
  · rw [held]
  · rw [ends]; exact r.frameEnds rfl l t
  · rw [discarded]; exact r.received rfl l t
  · rw [full]; exact r.raiseOn (r.received rfl l t) _ _
  · rw [refused]; exact r.refuse (r.received rfl l t) _ _ _
  · rw [acts, same]; exact r.received rfl l t

theorem values_takeAbility (l : Link) (t : Instant) (p : List Byte) (s : State) :
    (takeAbility l t p s).values = s.values := by
  have r := latching_values id s.values
  simp only [takeAbility]
  split
  · rfl
  · split
    · exact r.frameEnds rfl l t
    · split
      · exact r.rejectWord (r.frameEnds rfl l t) l
      · exact r.receiveWord (r.frameEnds rfl l t) l _

/-! What the acts of the requests leave. -/

theorem values_setEnables (l : Link) (word : EventWord) (s : State) :
    (setEnables l word s).values.butOfKind 0x15 = s.values.butOfKind 0x15 := by
  unfold setEnables
  rw [values_replyOk]
  rfl

theorem values_setFormat (l : Link) (p : List Byte) (f : FrameFormat) (s : State) :
    (replyOk l 0x20 p (s.setTiming { s.timing with format := f })).values.butOfKind 0x20 =
      s.values.butOfKind 0x20 := by
  rw [values_replyOk]
  rfl

theorem values_setInfo (l : Link) (p : List Byte) (s : State) :
    (setInfo l p s).values.butOfKind 0x21 = s.values.butOfKind 0x21 := by
  unfold setInfo
  rw [values_replyOk]
  rfl

theorem values_setAnchor (l : Link) (n : Nat) (s : State) :
    (setAnchor l n s).values.butOfKind 0x30 = s.values.butOfKind 0x30 := by
  unfold setAnchor
  rw [values_replyOk]
  rfl

theorem values_anchorHere (l : Link) (s : State) :
    (anchorHere l s).values.butOfKind 0x31 = s.values.butOfKind 0x31 := by
  unfold anchorHere
  split
  · rfl
  · rw [values_replyOk]
    rfl

theorem values_setMark (l : Link) (p : List Byte) (s : State) :
    (setMark l p s).values.butOfKind 0x32 = s.values.butOfKind 0x32 := by
  simp only [setMark]
  rw [values_replyOk, values_markChanged]
  rfl

theorem values_deleteMark (l : Link) (id : Nat) (s : State) :
    (deleteMark l id s).values.butOfKind 0x33 = s.values.butOfKind 0x33 := by
  simp only [deleteMark]
  split
  · rw [values_replyOk]
  · rw [values_replyOk, values_markChanged]
    rfl

theorem values_loadPage (l : Link) (p : List Byte) (s : State) :
    (loadPage l p s).values.butOfKind 0x40 = s.values.butOfKind 0x40 := by
  unfold loadPage
  rw [values_replyOk]
  rfl

theorem values_modifyEvents (l : Link) (mask : EventWord) (s : State) : (modifyEvents l mask s).values = s.values :=
  (latching_values id _).modifyEvents rfl l mask

theorem values_startProgram (l : Link) (n : BitVec 3) (p : BitVec 8) (s : State) :
    (startProgram l n p s).values = s.values := by
  rw [startProgram, values_beginOnSector, values_startOp]

theorem values_startErase (l : Link) (n : BitVec 3) (s : State) : (startErase l n s).values = s.values := by
  rw [startErase, values_beginOnSector, values_startOp]

/-- A request whose act keeps the values keeps them. -/
theorem values_takeRequest_of_same {act : State → State} (same : ∀ u, (act u).values = u.values) (n : Nat) (l : Link)
    (t : Instant) (kind : Byte) (checks : State → Checks) (s : State) :
    (takeRequest l t kind checks act s).values.butOfKind n = s.values.butOfKind n :=
  values_takeRequest (fun u => congrArg _ (same u)) l t kind checks s

/-- A good frame changes no more than the values of its kind. -/
theorem values_goodFrame (l : Link) (t : Instant) (kind : Byte) (p : List Byte) (s : State) :
    (goodFrame l t kind p s).values.butOfKind kind.toNat = s.values.butOfKind kind.toNat := by
  generalize named : kind.toNat = n
  unfold goodFrame
  rw [named]
  split
  · rw [values_takeAbility]
  · exact values_takeRequest_of_same (fun u => values_replyOk u _ _ _) _ _ _ _ _ _
  · exact values_takeRequest_of_same (fun u => values_replyOk (u.setFree (u.free + 1)) _ _ _) _ _ _ _ _ _
  · exact values_takeRequest_of_same (fun u => values_replyOk u _ _ _) _ _ _ _ _ _
  · exact values_takeRequest_of_same (fun u => values_replyOk u _ _ _) _ _ _ _ _ _
  · exact values_takeRequest_of_same (values_modifyEvents l _) _ _ _ _ _ _
  · exact values_takeRequest (values_setEnables l _) _ _ _ _ _
  · exact values_takeRequest_of_same (fun u => values_replyOk u _ _ _) _ _ _ _ _ _
  · exact values_takeRequest_of_same (fun u => values_replyOk
      (u.setSeq { u.seq with reinit := .replying l }) _ _ _) _ _ _ _ _ _
  · exact values_takeRequest (values_setFormat l _ _) _ _ _ _ _
  · exact values_takeRequest (values_setInfo l p) _ _ _ _ _
  · exact values_takeRequest_of_same (fun u => values_writeMode u l p) _ _ _ _ _ _
  · exact values_takeRequest_of_same (fun u => values_replyOk u _ _ _) _ _ _ _ _ _
  · exact values_takeRequest (values_setAnchor l _) _ _ _ _ _
  · exact values_takeRequest (values_anchorHere l) _ _ _ _ _
  · exact values_takeRequest (values_setMark l p) _ _ _ _ _
  · exact values_takeRequest (values_deleteMark l _) _ _ _ _ _
  · exact values_takeRequest_of_same (fun u => values_replyOk u _ _ _) _ _ _ _ _ _
  · exact values_takeRequest_of_same (fun u => values_lockPath u l _ _) _ _ _ _ _ _
  · exact values_takeRequest_of_same (fun u => values_unlockPath u l) _ _ _ _ _ _
  · exact values_takeRequest_of_same (fun u => values_replyOk u _ _ _) _ _ _ _ _ _
  · exact values_takeRequest_of_same (fun u => values_replyOk u _ _ _) _ _ _ _ _ _
  · exact values_takeRequest (values_loadPage l p) _ _ _ _ _
  · exact values_takeRequest_of_same (values_startProgram l _ _) _ _ _ _ _ _
  · exact values_takeRequest_of_same (values_startErase l _) _ _ _ _ _ _
  · exact values_takeRequest_of_same (fun u => values_startOp u l _ _ _) _ _ _ _ _ _
  · exact values_takeRequest_of_same (act := queueRead p) (fun u => rfl) _ _ _ _ _ _
  · exact values_takeRequest_of_same (fun u => values_startOp u l _ _ _) _ _ _ _ _ _
  · exact values_takeRequest_of_same (fun u => values_startOp u l _ _ _) _ _ _ _ _ _
  · exact values_takeRequest_of_same (act := id) (fun u => rfl) _ _ _ _ _ _

theorem values_receiveByte (l : Link) (t : Instant) (b : Byte) (s : State) :
    (receiveByte l t b s).values.butOfRequests = s.values.butOfRequests := by
  have r := latching_values id s.values
  unfold receiveByte
  split
  · rfl
  · split
    · rfl
    · split
      · rfl
      · rfl
      · exact congrArg _ (r.raiseOn (r.frameEnds rfl l t) _ _)
      · rw [← butOfRequests_butOfKind, values_goodFrame, butOfRequests_butOfKind]

end Sys2Proof.Machine
end

section
/-! PROOF. What holds its value but for its own commands. -/

namespace Sys2Proof.Machine

/-- From a state a result changes no more than the values of a command. -/
def KeepsBut (c : Instr) (s : State) (r : Result) : Prop := ∀ t, r = .next t → t.values.butOf c = s.values.butOf c

section
variable {c : Instr} {s u : State}

theorem keepsBut_same : KeepsBut c s (.next s) := fun _ runs => by cases runs; rfl

theorem keepsBut_answer (same : u.values.butOf c = s.values.butOf c) : KeepsBut c s (answer u) := fun t runs => by
  cases runs
  rw [values_settle, same]

theorem keepsBut_of_values (same : u.values = s.values) : KeepsBut c s (answer u) :=
  keepsBut_answer (congrArg _ same)

end

section
variable (s : State)

/-! ### Start-up -/

theorem keeps_leaveReset (straps : Straps) : KeepsBut (.leaveReset straps) s (execLeaveReset straps s) := by
  unfold execLeaveReset
  split
  · exact keepsBut_answer rfl
  · exact keepsBut_same

theorem keeps_cacheRamCheckDone (passed : Bool) :
    KeepsBut (.cacheRamCheckDone passed) s (execCacheRamCheckDone passed s) := by
  unfold execCacheRamCheckDone
  split
  case h_1 since _ =>
    generalize addInterval since 2000 = n
    exact keepsBut_answer rfl
  case h_2 => exact keepsBut_same

theorem keeps_selfTestEncoderAttempt : KeepsBut .selfTestEncoderAttempt s (execSelfTestEncoderAttempt s) := by
  unfold execSelfTestEncoderAttempt
  split
  case h_1 attempt tests _ =>
    generalize addInterval attempt 500 = n
    split
    · exact keepsBut_same
    · exact keepsBut_of_values rfl
  case h_2 => exact keepsBut_same

theorem keeps_selfTestEncoderReadDone (a : Axis) (bits : BitVec 16) :
    KeepsBut (.selfTestEncoderReadDone a bits) s (execSelfTestEncoderReadDone a bits s) := by
  unfold execSelfTestEncoderReadDone
  split
  · split
    · exact keepsBut_of_values (values_afterEncoderRead _ _ _)
    · exact keepsBut_same
  · exact keepsBut_same

theorem keeps_markerAreaReadDone : KeepsBut .markerAreaReadDone s (execMarkerAreaReadDone s) := by
  unfold execMarkerAreaReadDone
  split
  · exact keepsBut_of_values rfl
  · exact keepsBut_same

theorem values_endStartup (u : State) : { (endStartup u).values with anchor := 0 } = { u.values with anchor := 0 } := by
  have r := latching_values (fun v => { v with anchor := 0 }) { u.values with anchor := 0 }
  have opens : { (opened u).values with anchor := 0 } = { u.values with anchor := 0 } :=
    r.reevaluate (s := anchored u) rfl
  rw [endStartup_eq]
  exact r.abilitySend (r.abilitySend opens _ _) _ _

theorem keeps_tableScanEnd : KeepsBut .tableScanEnd s (execTableScanEnd s) := by
  unfold execTableScanEnd
  split
  case h_1 reinit since _ =>
    generalize addInterval since 21000 = n
    have scanned : (scanResults (advanceTo n s)).values = s.values := values_scanResults (advanceTo n s)
    have judged : (if reinit then scanResults (advanceTo n s) else
        failBits (scanFailBits (scanResults (advanceTo n s))) (scanResults (advanceTo n s))).values = s.values := by
      split
      · exact scanned
      · exact (values_failBits _ _).trans scanned
    exact keepsBut_answer ((values_endStartup _).trans
      (congrArg (fun v : Values => { v with anchor := 0 }) judged))
  case h_2 =>
    split
    · exact keepsBut_of_values ((values_completeOp _ _ _).trans ((values_scanResults _).trans (values_advanceTo _ _)))
    · exact keepsBut_same

/-! ### Sampling, the stream and the computations -/

theorem keeps_samplingInstant : KeepsBut .samplingInstant s (execSamplingInstant s) := by
  unfold execSamplingInstant
  split
  · split
    · exact keepsBut_same
    · exact keepsBut_of_values rfl
  · exact keepsBut_same

theorem keeps_encoderReadComplete (a : Axis) (bits : BitVec 16) :
    KeepsBut (.encoderReadComplete a bits) s (execEncoderReadComplete a bits s) := by
  unfold execEncoderReadComplete
  split
  · exact keepsBut_of_values (values_applySample _ _ _)
  · exact keepsBut_same

theorem keeps_syncEdge (t : Instant) : KeepsBut (.syncEdge t) s (execSyncEdge t s) := by
  unfold execSyncEdge
  split
  · exact keepsBut_same
  · exact keepsBut_of_values (values_applyEdge _)

theorem keeps_streamTimeout : KeepsBut .streamTimeout s (execStreamTimeout s) := by
  unfold execStreamTimeout
  split
  · exact keepsBut_of_values (values_loseStream _)
  · exact keepsBut_same

theorem keeps_computationStart : KeepsBut .computationStart s (execComputationStart s) := by
  unfold execComputationStart
  split
  · exact keepsBut_same
  · refine keepsBut_of_values ?_
    split
    · exact values_computePattern _ _ _
    · exact values_computeFrame _ _ _

theorem keeps_cutoff : KeepsBut .cutoff s (execCutoff s) := by
  unfold execCutoff
  split
  · exact keepsBut_of_values rfl
  · exact keepsBut_same

theorem keeps_dueInstant : KeepsBut .dueInstant s (execDueInstant s) := by
  unfold execDueInstant
  split
  · exact keepsBut_of_values (values_handOver _ _ _ _)
  · exact keepsBut_same

/-! ### The port and the store -/

theorem keeps_portReadStart : KeepsBut .portReadStart s (execPortReadStart s) := by
  unfold execPortReadStart
  split
  · split
    · exact keepsBut_of_values (values_startSource _ _)
    · exact keepsBut_same
  · exact keepsBut_same

theorem keeps_fillComplete : KeepsBut .fillComplete s (execFillComplete s) := by
  unfold execFillComplete
  split
  · exact keepsBut_of_values ((values_finishFill _ _ _).trans (values_endRead _ _ _))
  · exact keepsBut_same

theorem keeps_walkReadComplete : KeepsBut .walkReadComplete s (execWalkReadComplete s) := by
  unfold execWalkReadComplete
  split
  · exact keepsBut_of_values ((values_finishWalkRead _ _ _ _ _).trans (values_endRead _ _ _))
  · exact keepsBut_same

theorem keeps_readStoreReadEnd : KeepsBut .readStoreReadEnd s (execReadStoreReadEnd s) := by
  have r := latching_values id s.values
  unfold execReadStoreReadEnd
  split
  · refine keepsBut_of_values ?_
    split
    · exact values_endRead _ _ _
    · exact r.answerReadStore (values_endRead _ _ _) _
  · exact keepsBut_same

theorem keeps_storeWorkBegins : KeepsBut .storeWorkBegins s (execStoreWorkBegins s) := by
  unfold execStoreWorkBegins
  split
  · split
    · exact keepsBut_of_values (values_beginWork _ _)
    · exact keepsBut_same
  · exact keepsBut_same

theorem values_finishErase (o : StoreOp) (n : BitVec 3) :
    { (finishErase o n s).values with flash := [] } = { s.values with flash := [] } := by
  rw [finishErase, values_completeOp]
  rfl

theorem values_finishProgram (o : StoreOp) (n : BitVec 3) (p : BitVec 8) :
    { (finishProgram o n p s).values with flash := [], pageBuffer := [] } =
      { s.values with flash := [], pageBuffer := [] } := by
  simp only [finishProgram]
  rw [values_completeOp]
  rfl

theorem values_finishProtect (o : StoreOp) :
    { (finishProtect o s).values with flash := [] } = { s.values with flash := [] } := by
  simp only [finishProtect]
  rw [values_completeOp]
  rfl

theorem values_finishClearSector (o : StoreOp) (n : BitVec 3) :
    { (finishClearSector o n s).values with flash := [] } = { s.values with flash := [] } := by
  simp only [finishClearSector]
  split
  · rw [values_completeOp]
    rfl
  · rw [values_beginOnSector]
    rfl

theorem keeps_eraseComplete : KeepsBut .eraseComplete s (execEraseComplete s) := by
  unfold execEraseComplete
  split
  · exact keepsBut_answer ((values_finishErase _ _ _).trans (congrArg (fun v : Values => { v with flash := [] })
      (values_advanceTo _ _)))
  · exact keepsBut_same

theorem keeps_programComplete : KeepsBut .programComplete s (execProgramComplete s) := by
  unfold execProgramComplete
  split
  · exact keepsBut_answer ((values_finishProgram _ _ _ _).trans
      (congrArg (fun v : Values => { v with flash := [], pageBuffer := [] })
      (values_advanceTo _ _)))
  · exact keepsBut_same

theorem keeps_setReadProtectionComplete :
    KeepsBut .setReadProtectionComplete s (execSetReadProtectionComplete s) := by
  unfold execSetReadProtectionComplete
  split
  · exact keepsBut_answer ((values_finishProtect _ _).trans (congrArg (fun v : Values => { v with flash := [] })
      (values_advanceTo _ _)))
  · exact keepsBut_same

theorem keeps_clearProtectionSectorErased :
    KeepsBut .clearProtectionSectorErased s (execClearProtectionSectorErased s) := by
  unfold execClearProtectionSectorErased
  split
  · exact keepsBut_answer ((values_finishClearSector _ _ _).trans (congrArg (fun v : Values => { v with flash := [] })
      (values_advanceTo _ _)))
  · exact keepsBut_same

/-! ### Links -/

theorem keeps_frameAbandoned (l : Link) (t : Instant) (b : Byte) :
    KeepsBut (.frameAbandoned l t b) s (execFrameAbandoned l t b s) := by
  have r := latching_values id s.values
  unfold execFrameAbandoned
  split
  · split
    · exact keepsBut_of_values (r.raiseOn (r.frameEnds rfl l t) _ _)
    · exact keepsBut_same
  · exact keepsBut_same

theorem keeps_frameGapTimeout (l : Link) : KeepsBut (.frameGapTimeout l) s (execFrameGapTimeout l s) := by
  have r := latching_values id s.values
  unfold execFrameGapTimeout
  split
  · exact keepsBut_of_values (r.raiseOn (r.frameEnds rfl l _) _ _)
  · exact keepsBut_same

theorem keeps_abilitySendDue (l : Link) : KeepsBut (.abilitySendDue l) s (execAbilitySendDue l s) := by
  have r := latching_values id s.values
  unfold execAbilitySendDue
  split
  · exact keepsBut_of_values (r.abilitySend (r.advanceTo rfl _) _ _)
  · exact keepsBut_same

theorem keeps_abilityTimeout (l : Link) : KeepsBut (.abilityTimeout l) s (execAbilityTimeout l s) := by
  have r := latching_values id s.values
  unfold execAbilityTimeout
  split
  · exact keepsBut_of_values (r.enterSilent (r.setLink (r.advanceTo rfl _) _ _) _)
  · exact keepsBut_of_values (r.enterSilent (r.setLink (r.advanceTo rfl _) _ _) _)
  · exact keepsBut_same

theorem keeps_linkUpTimeout (l : Link) : KeepsBut (.linkUpTimeout l) s (execLinkUpTimeout l s) := by
  have r := latching_values id s.values
  unfold execLinkUpTimeout
  split
  · exact keepsBut_of_values (r.enterSilent (r.leaveUp (r.advanceTo rfl _) _) _)
  · exact keepsBut_same

theorem keeps_transmitEnd (l : Link) : KeepsBut (.transmitEnd l) s (execTransmitEnd l s) := by
  have r := latching_values id s.values
  unfold execTransmitEnd
  split
  · exact keepsBut_of_values (r.afterTransmit (r.setLink (r.advanceTo rfl _) _ _) _ _)
  · exact keepsBut_same

theorem keeps_periodicReportDue : KeepsBut .periodicReportDue s (execPeriodicReportDue s) := by
  have r := latching_values id s.values
  unfold execPeriodicReportDue
  split
  · split
    · exact keepsBut_of_values (r.handRecord (r.engineMoves _ _ _ _ (r.advanceTo rfl _)) _ _)
    · exact keepsBut_same
  · exact keepsBut_same

theorem keeps_reinitializeRestart : KeepsBut .reinitializeRestart s (execReinitializeRestart s) := by
  unfold execReinitializeRestart
  split
  · exact keepsBut_answer rfl
  · exact keepsBut_same

theorem keeps_renegotiateLinkRestart (l : Link) :
    KeepsBut (.renegotiateLinkRestart l) s (execRenegotiateLinkRestart l s) := by
  have r := latching_values id s.values
  unfold execRenegotiateLinkRestart
  split
  · exact keepsBut_of_values (r.enterDetect (r.leaveUp rfl _) _ _ _)
  · exact keepsBut_same

/-! ### Requests -/

/-- A frame of a kind changes no more than a command of whose values the kind's are. -/
theorem keeps_goodFrame {c : Instr} (kind : Byte) (own : ∀ v, Values.butOf c v = Values.butOfKind kind.toNat v)
    (l : Link) (t : Instant) (p : List Byte) : KeepsBut c s (answer (goodFrame l t kind p s)) :=
  keepsBut_answer (by rw [own, own, values_goodFrame])

end

/-- Every command changes no more than its own values. -/
theorem values_exec (c : Instr) (s : State) : KeepsBut c s (exec c s) := by
  cases c with
  | powerOn | pinReset => exact fun _ _ => rfl
  | leaveReset straps => exact keeps_leaveReset s straps
  | cacheRamCheckDone passed => exact keeps_cacheRamCheckDone s passed
  | selfTestEncoderAttempt => exact keeps_selfTestEncoderAttempt s
  | selfTestEncoderReadDone a bits => exact keeps_selfTestEncoderReadDone s a bits
  | markerAreaReadDone => exact keeps_markerAreaReadDone s
  | tableScanEnd => exact keeps_tableScanEnd s
  | samplingInstant => exact keeps_samplingInstant s
  | encoderReadComplete a bits => exact keeps_encoderReadComplete s a bits
  | syncEdge t => exact keeps_syncEdge s t
  | streamTimeout => exact keeps_streamTimeout s
  | computationStart => exact keeps_computationStart s
  | cutoff => exact keeps_cutoff s
  | dueInstant => exact keeps_dueInstant s
  | portReadStart => exact keeps_portReadStart s
  | fillComplete => exact keeps_fillComplete s
  | walkReadComplete => exact keeps_walkReadComplete s
  | readStoreReadEnd => exact keeps_readStoreReadEnd s
  | storeWorkBegins => exact keeps_storeWorkBegins s
  | eraseComplete => exact keeps_eraseComplete s
  | programComplete => exact keeps_programComplete s
  | setReadProtectionComplete => exact keeps_setReadProtectionComplete s
  | clearProtectionSectorErased => exact keeps_clearProtectionSectorErased s
  | frameAbandoned l t b => exact keeps_frameAbandoned s l t b
  | frameGapTimeout l => exact keeps_frameGapTimeout s l
  | ability l t p => exact keepsBut_of_values (values_takeAbility l t p s)
  | abilitySendDue l => exact keeps_abilitySendDue s l
  | abilityTimeout l => exact keeps_abilityTimeout s l
  | linkUpTimeout l => exact keeps_linkUpTimeout s l
  | transmitEnd l => exact keeps_transmitEnd s l
  | periodicReportDue => exact keeps_periodicReportDue s
  | reinitializeRestart => exact keeps_reinitializeRestart s
  | renegotiateLinkRestart l => exact keeps_renegotiateLinkRestart s l
  | byteReceived l t b => exact keepsBut_answer (values_receiveByte l t b s)
  | unknownKindRequest l t k p =>
    refine keepsBut_answer ?_
    show Values.butOfRequests _ = Values.butOfRequests _
    rw [← butOfRequests_butOfKind k.toNat, values_goodFrame, butOfRequests_butOfKind]
  | identify l t p => exact keeps_goodFrame s 0x10 (fun _ => rfl) l t p
  | readStatus l t p => exact keeps_goodFrame s 0x11 (fun _ => rfl) l t p
  | readPosition l t p => exact keeps_goodFrame s 0x12 (fun _ => rfl) l t p
  | readEvents l t p => exact keeps_goodFrame s 0x13 (fun _ => rfl) l t p
  | modifyEvents l t p => exact keeps_goodFrame s 0x14 (fun _ => rfl) l t p
  | setEventEnables l t p => exact keeps_goodFrame s 0x15 (fun _ => rfl) l t p
  | renegotiate l t p => exact keeps_goodFrame s 0x16 (fun _ => rfl) l t p
  | reinitialize l t p => exact keeps_goodFrame s 0x17 (fun _ => rfl) l t p
  | frameFormat l t p => exact keeps_goodFrame s 0x20 (fun _ => rfl) l t p
  | frameInfo l t p => exact keeps_goodFrame s 0x21 (fun _ => rfl) l t p
  | writeModeSet l t p => exact keeps_goodFrame s 0x22 (fun _ => rfl) l t p
  | readModeSet l t p => exact keeps_goodFrame s 0x23 (fun _ => rfl) l t p
  | setAnchor l t p => exact keeps_goodFrame s 0x30 (fun _ => rfl) l t p
  | anchorHere l t p => exact keeps_goodFrame s 0x31 (fun _ => rfl) l t p
  | setMark l t p => exact keeps_goodFrame s 0x32 (fun _ => rfl) l t p
  | deleteMark l t p => exact keeps_goodFrame s 0x33 (fun _ => rfl) l t p
  | readMarks l t p => exact keeps_goodFrame s 0x34 (fun _ => rfl) l t p
  | lockPath l t p => exact keeps_goodFrame s 0x38 (fun _ => rfl) l t p
  | unlock l t p => exact keeps_goodFrame s 0x39 (fun _ => rfl) l t p
  | cacheStatus l t p => exact keeps_goodFrame s 0x3A (fun _ => rfl) l t p
  | dumpCache l t p => exact keeps_goodFrame s 0x3B (fun _ => rfl) l t p
  | loadPageBuffer l t p => exact keeps_goodFrame s 0x40 (fun _ => rfl) l t p
  | programPage l t p => exact keeps_goodFrame s 0x41 (fun _ => rfl) l t p
  | eraseSector l t p => exact keeps_goodFrame s 0x42 (fun _ => rfl) l t p
  | rescanTables l t p => exact keeps_goodFrame s 0x43 (fun _ => rfl) l t p
  | readStore l t p => exact keeps_goodFrame s 0x44 (fun _ => rfl) l t p
  | setReadProtection l t p => exact keeps_goodFrame s 0x45 (fun _ => rfl) l t p
  | clearReadProtection l t p => exact keeps_goodFrame s 0x46 (fun _ => rfl) l t p

/-! ### Each value -/

section
variable {c : Instr} {s t : State} (same : t.values.butOf c = s.values.butOf c)
include same

theorem flash_of_butOf (other : writesFlash c = false) : t.store.flash = s.store.flash := by
  cases c
  case powerOn | pinReset | eraseComplete | programComplete | setReadProtectionComplete |
    clearProtectionSectorErased => cases other
  all_goals exact congrArg Values.flash same

theorem straps_of_butOf (other : restarts c = false) : t.seq.straps = s.seq.straps ∧ t.seq.cause = s.seq.cause := by
  cases c
  case powerOn | pinReset | leaveReset | reinitializeRestart => cases other
  all_goals exact ⟨congrArg Values.straps same, congrArg Values.cause same⟩

section
variable (away : restarts c = false) (one : mayBeAnyRequest c = false)
include away one

theorem pageBuffer_of_butOf : match (generalizing := false) c with
    | .loadPageBuffer _ _ _ | .programComplete => True
    | _ => t.store.pageBuffer = s.store.pageBuffer := by
  cases c
  case loadPageBuffer | programComplete => trivial
  case powerOn | pinReset | leaveReset | reinitializeRestart => cases away
  case byteReceived | unknownKindRequest => cases one
  all_goals exact congrArg Values.pageBuffer same

theorem marks_of_butOf : match (generalizing := false) c with
    | .setMark _ _ _ | .deleteMark _ _ _ => True
    | _ => t.auth.marks = s.auth.marks := by
  cases c
  case setMark | deleteMark => trivial
  case powerOn | pinReset | leaveReset | reinitializeRestart => cases away
  case byteReceived | unknownKindRequest => cases one
  all_goals exact congrArg Values.marks same

theorem anchor_of_butOf : match (generalizing := false) c with
    | .setAnchor _ _ _ | .anchorHere _ _ _ | .tableScanEnd => True
    | _ => t.auth.anchor = s.auth.anchor := by
  cases c
  case setAnchor | anchorHere | tableScanEnd => trivial
  case powerOn | pinReset | leaveReset | reinitializeRestart => cases away
  case byteReceived | unknownKindRequest => cases one
  all_goals exact congrArg Values.anchor same

theorem format_of_butOf : match (generalizing := false) c with
    | .frameFormat _ _ _ | .frameInfo _ _ _ => True
    | _ => t.timing.format = s.timing.format := by
  cases c
  case frameFormat | frameInfo => trivial
  case powerOn | pinReset | leaveReset | reinitializeRestart => cases away
  case byteReceived | unknownKindRequest => cases one
  all_goals exact congrArg Values.format same

theorem enables_of_butOf : match (generalizing := false) c with
    | .setEventEnables _ _ _ => True
    | _ => ∀ l, enableWord t l = enableWord s l := by
  cases c
  case setEventEnables => trivial
  case powerOn | pinReset | leaveReset | reinitializeRestart => cases away
  case byteReceived | unknownKindRequest => cases one
  all_goals exact enableWord_of_enables (congrArg Values.enables same)

theorem disabled_of_butOf : match (generalizing := false) c with
    | .cacheRamCheckDone _ => True
    | _ => t.cache.disabled = s.cache.disabled := by
  cases c
  case cacheRamCheckDone => trivial
  case powerOn | pinReset | leaveReset | reinitializeRestart => cases away
  case byteReceived | unknownKindRequest => cases one
  all_goals exact congrArg Values.disabled same

end

end

/-- Settles O38, by what every command leaves of the values. -/
theorem valuesChangeOnlyByTheirCommands : Obligations.ValuesChangeOnlyByTheirCommands := by
  unfold Obligations.ValuesChangeOnlyByTheirCommands
  intro c s t runs
  have same := values_exec c s t runs
  refine ⟨flash_of_butOf same, straps_of_butOf same, fun away one => ?_⟩
  exact ⟨pageBuffer_of_butOf same away one, marks_of_butOf same away one, anchor_of_butOf same away one,
    format_of_butOf same away one, enables_of_butOf same away one, disabled_of_butOf same away one⟩

end Sys2Proof.Machine
end

section
/-! PROOF. The lengths and places of the reply fields (R189, R190). -/

namespace Sys2Proof.Machine

/-! ### Fields of a payload -/

theorem byteAt_append (before after : List Byte) (i : Nat) :
    byteAt (before ++ after) (before.length + i) = byteAt after i := by
  simp [byteAt, List.getD_eq_getElem?_getD, List.getElem?_append_right]

theorem byteAt_le8 {n : Nat} (small : n < 256) (rest : List Byte) : byteAt (le8 n ++ rest) 0 = n :=
  Nat.mod_eq_of_lt small

theorem byteAt_leFlag (b : Bool) (rest : List Byte) : byteAt (leFlag b ++ rest) 0 = if b then 1 else 0 := by
  cases b <;> rfl

@[simp] theorem length_leFlag (b : Bool) : (leFlag b).length = 1 := rfl

@[simp] theorem length_padText (n : Nat) (text : List Byte) : (padText n text).length = n := by
  simp only [padText, List.length_append, List.length_take, List.length_replicate]
  omega

theorem length_flatMap_const {α : Type} {f : α → List Byte} {n : Nat} (each : ∀ x, (f x).length = n) (xs : List α) :
    (xs.flatMap f).length = n * xs.length := by
  induction xs with
  | nil => rfl
  | cons x xs ih =>
    rw [List.flatMap_cons, List.length_append, each, ih, List.length_cons]
    exact (Nat.mul_succ n xs.length ▸ Nat.add_comm _ _)

/-! ### IDENTIFY, READ POSITION, CACHE STATUS and READ MARKS (R190) -/

theorem length_identityFields (d : Option Description) : (identityFields d).length = 32 := by
  cases d with
  | none => rfl
  | some d => simp [identityFields]

theorem length_identifyFields (s : State) : (identifyFields s).length = 38 := by
  simp [identifyFields, length_identityFields]

theorem length_positionFields (s : State) : (positionFields s).length = 36 := by simp [positionFields]

theorem length_cacheFields (c : Cache) : (cacheFields c).length = 17 := by simp [cacheFields]

theorem length_marksFields (marks : List Mark) : (marksFields marks).length = 1 + 12 * marks.length := by
  have mark (m : Mark) : (markFields m).length = 12 := by simp [markFields]
  rw [marksFields, List.length_append, length_flatMap_const mark, length_le8]

/-! ### READ STATUS (R189) -/

@[simp] theorem length_byteOr (s : State) (i : Nat) (v : Option Nat) : (byteOr s i v).length = 1 := by
  cases v <;> rfl

@[simp] theorem length_fieldOr (s : State) (i : Nat) (v : Option Nat) : (fieldOr s i v).length = 2 := by
  cases v <;> rfl

theorem length_engineFields (s : State) : (engineFields s).length = 18 := rfl

theorem length_operationFields (s : State) : (opFields s ++ completionFields s).length = 11 := by
  simp [opFields, completionFields]

@[simp] theorem length_activeFields (s : State) (i : Nat) (t : Option ActiveTable) :
    (activeFields s i t).length = 3 := by
  simp [activeFields]

theorem length_storeFields {s : State} (law : StoreLaw s) : (storeFields s).length = 43 := by
  obtain ⟨-, -, verdicts, headers⟩ := law
  simp only [storeFields, List.length_append, length_activeFields, length_leFlag]
  rw [← List.length_append, length_operationFields, length_flatMap_const (n := 1) (fun _ => rfl),
    length_flatMap_const (n := 1) (fun _ => rfl), length_flatMap_const (n := 2) (fun _ => rfl), verdicts, headers]

theorem length_authorityFields (s : State) : (authorityFields s).length = 9 := rfl

/-! The byte of a code is the code. -/

theorem code_engineState_lt (x : EngineState) : x.code < 256 := by cases x <;> decide

theorem code_streamState_lt (x : StreamState) : x.code < 256 := by cases x <;> decide

theorem code_linkState_lt (x : LinkState) : x.code < 256 := by cases x <;> decide

theorem holderCode_lt (h : Option Link) : holderCode h < 256 := by
  cases h with
  | none => decide
  | some l => cases l <;> decide

theorem toNat_flag (b : Bool) : (if b then 1 else 0 : Byte).toNat = if b then 1 else 0 := by cases b <;> rfl

/-- Settles O48, by the lengths of the groups of fields and the offsets they give. -/
theorem replyLayouts : Obligations.ReplyLayouts := by
  unfold Obligations.ReplyLayouts
  intro s
  refine ⟨length_identifyFields s, length_positionFields s, length_cacheFields _, length_marksFields _, fun law => ?_⟩
  have code {n : Nat} (small : n < 256) : (BitVec.ofNat 8 n).toNat = n := Nat.mod_eq_of_lt small
  have store := length_storeFields law
  have beforeAuthority : (0 :: (engineFields s ++ storeFields s)).length = 62 := by
    rw [List.length_cons, List.length_append, length_engineFields, store]
  have authority (i : Nat) : byteAt (0 :: statusFields s) (62 + i) = byteAt (authorityFields s) i := by
    rw [← beforeAuthority]
    exact byteAt_append (0 :: (engineFields s ++ storeFields s)) (authorityFields s) i
  refine ⟨?_, code (code_engineState_lt _), code (code_streamState_lt _), rfl, ?_, ?_, ?_, ?_, ?_, ?_⟩
  · simp only [statusFields, List.length_cons, List.length_append, length_engineFields, store, length_authorityFields]
  · have before : (0 :: (engineFields s ++ (opFields s ++ completionFields s))).length = 30 := by
      rw [List.length_cons, List.length_append, length_engineFields, length_operationFields]
    have protection (after : List Byte) := byteAt_append (0 :: (engineFields s ++ (opFields s ++ completionFields s)))
      (leFlag s.store.readProtection ++ after) 0
    simp only [before, List.cons_append, List.append_assoc] at protection
    simp only [statusFields, storeFields, List.append_assoc]
    rw [protection]
    exact toNat_flag _
  · exact (authority 0).trans (code (holderCode_lt _))
  · exact (authority 1).trans (toNat_flag _)
  · have placed := take_drop_field (rest := (authorityFields s).drop 5) (k := 2)
      (before := 0 :: (engineFields s ++ storeFields s) ++ (authorityFields s).take 3) (n := 65)
      (by rw [List.length_append, beforeAuthority]; rfl) (length_le16 s.auth.anchor)
    rw [← placed]
    simp only [statusFields, List.cons_append, List.append_assoc]
    rfl
  · exact (authority 6).trans (code (code_linkState_lt _))
  · exact (authority 7).trans (code (code_linkState_lt _))

end Sys2Proof.Machine
end
